-- ==== Sys2Proof/Word.lean ====
section
/-! DEFINITION. The word types of the block: bytes, milliseconds, completion tags (00_scope.md R8, R9). -/

namespace Sys2Proof

/-- A byte of the wire, bit 0 least significant (R9). -/
abbrev Byte := BitVec 8

/-- A count of milliseconds: a value of the `now` input or a stamp taken from it (R43). Its width is the parameter
`Config.timeW`, which the operations apply (log 3). -/
abbrev Time := Nat

/-- A duration held in a 32-bit register: `srtt`, `rto`, `SRTT_INIT`, `T_BYTE` (R8, R29). -/
abbrev Millis := BitVec 32

/-- The completion tag of a fragment (R31). Its width is the parameter `Config.tagW`, which the operations apply
(log 3). -/
abbrev Tag := Nat

end Sys2Proof
end

