-- ==== Sys2Proof/Config.lean ====
section
/-! DEFINITION. The parameters that the spec leaves to the implementation (00_scope.md R8, 92_eei_decisions.md). -/

namespace Sys2Proof

/-- Which payload CRC the implementation uses. `crc16` is a parameter (R8, R114, D34): either the recommended default,
or any other function, about which nothing is known (log 4). -/
inductive CrcSel where
  | xmodem
  | external
  deriving DecidableEq, Repr

/-- The parameters of R8. `T_CLOSE` is an argument of the driver's `close` (log 12). A depth of `none` is an unbounded
queue. -/
structure Config where
  /-- `crc16` -/
  crc : CrcSel
  /-- `SRTT_INIT`, ms -/
  srttInit : Millis
  /-- `T_BYTE`, ms -/
  tByte : Millis
  /-- `TXQ_DEPTH` -/
  txqDepth : Option Nat
  /-- `RXQ_DEPTH` -/
  rxqDepth : Option Nat
  /-- `TIME_W`, bits of `now` and of every stamp -/
  timeW : Nat
  /-- `TAG_W`, bits of a completion tag -/
  tagW : Nat
  /-- `T_POLL_RX`, ms; read by the driver layer only -/
  tPollRx : Millis
  deriving DecidableEq, Repr

/-- The recommended defaults of R8. -/
def Config.default : Config where
  crc := .xmodem
  srttInit := 100
  tByte := 100
  txqDepth := none
  rxqDepth := none
  timeW := 32
  tagW := 16
  tPollRx := 100

/-- A payload CRC other than the default: a value for every byte list, otherwise unconstrained (D34; log 4). -/
opaque Config.crc16External : List Byte → BitVec 16

/-- The `srtt` that follows a sample when `floor((8 * srtt + 2 * rtt) / 10)` has no room in 32 bits, as a function of that
number. The spec states no result there; it cannot happen while `TIME_W` is at most 32 (R194, R195; log 15). -/
opaque Config.srttBeyond : Nat → Millis

end Sys2Proof
end

