-- ==== Sys2Proof/Machine/Codec.lean ====
section
/-! DEFINITION. The codec: pure functions on header bytes, payloads and packets (30_encoding.md section 1 to 3,
40_codec_framer.md section 1). -/

namespace Sys2Proof.Machine

/-- `SYNCH`, the header marker byte (00_scope.md R7, R80). -/
def synch : Byte := 0x01

/-- `MDL`, the largest payload of one packet and the `data_length` of an emitted SYN (R7, R93). -/
def mdl : Nat := 255

/-! The control byte, bit by bit (R82). -/

def ctlSo (c : Byte) : Bool := c.getLsbD 0
def ctlEor (c : Byte) : Bool := c.getLsbD 1
/-- `ANbit` (R86). -/
def ctlAn (c : Byte) : Bool := c.getLsbD 2
/-- `SNbit` (R86). -/
def ctlSn (c : Byte) : Bool := c.getLsbD 3
def ctlRst (c : Byte) : Bool := c.getLsbD 4
def ctlFin (c : Byte) : Bool := c.getLsbD 5
def ctlAck (c : Byte) : Bool := c.getLsbD 6
def ctlSyn (c : Byte) : Bool := c.getLsbD 7

/-- `b << i` in a control byte (R86). -/
def bitAt (b : Bool) (i : Nat) : Byte := if b then 1#8 <<< i else 0

/-- A control byte assembled as `flags | (sn << 3) | (an << 2)` (R86). -/
def mkCtl (flags : Byte) (sn an : Bool) : Byte := flags ||| bitAt sn 3 ||| bitAt an 2

/-! Big-endian fields (20_memory.md R63, 30_encoding.md R98). -/

/-- `v[15:8]`. -/
def hi16 (v : BitVec 16) : Byte := v.extractLsb' 8 8
/-- `v[7:0]`. -/
def lo16 (v : BitVec 16) : Byte := v.extractLsb' 0 8
/-- The 16-bit value of two bytes, the first most significant. -/
def join16 (h l : Byte) : BitVec 16 := h ++ l
/-- The four bytes of a 32-bit value, most significant first. -/
def bytes32 (v : BitVec 32) : List Byte := [v.extractLsb' 24 8, v.extractLsb' 16 8, v.extractLsb' 8 8, v.extractLsb' 0 8]
/-- The 32-bit value of four bytes, the first most significant. -/
def join32 (a b c d : Byte) : BitVec 32 := (a ++ b ++ c ++ d : BitVec 32)

/-! Header and payload (R110 to R118). -/

/-- The header checksum: `((control + data_length) mod 256) ^ 0xFF` (R84). -/
def headerChecksum (c l : Byte) : Byte := (c + l) ^^^ 0xFF

/-- The four bytes of a header with a given checksum byte (R80). -/
def headerBytes (c l k : Byte) : List Byte := [synch, c, l, k]

/-- `make_header` (R110). -/
def makeHeader (c l : Byte) : List Byte := headerBytes c l (headerChecksum c l)

/-- `header_ok` (R111). -/
def headerOk (c l k : Byte) : Bool := c + l + k == 0xFF

/-- `has_data` (R113); `0xB0` is SYN, FIN and RST. -/
def hasData (c l : Byte) : Bool := ctlSo c || ((c &&& 0xB0) == 0 && l != 0)

/-- One bit of the default CRC: polynomial 0x1021, most significant bit first (R114). -/
def crcBit (crc : BitVec 16) : BitVec 16 := if crc.getLsbD 15 then (crc <<< 1) ^^^ 0x1021 else crc <<< 1

/-- One byte of the default CRC (R114). -/
def crcByte (crc : BitVec 16) (b : Byte) : BitVec 16 :=
  crcBit (crcBit (crcBit (crcBit (crcBit (crcBit (crcBit (crcBit (crc ^^^ (b.setWidth 16 <<< 8)))))))))

/-- The default of `crc16`, initial value 0 (R114, D34). -/
def crc16Xmodem (bytes : List Byte) : BitVec 16 := bytes.foldl crcByte 0

/-- The parameter `crc16` (R8, R114; log 4). -/
def crc16 (sel : CrcSel) (bytes : List Byte) : BitVec 16 :=
  match sel with
  | .xmodem => crc16Xmodem bytes
  | .external => Config.crc16External bytes

/-- The two bytes of a payload CRC on the wire, high byte first (R63, R85). -/
def crcBytes (v : BitVec 16) : List Byte := [hi16 v, lo16 v]

/-- A list's length as a `data_length` byte. -/
def lenByte (bytes : List Byte) : Byte := BitVec.ofNat 8 bytes.length

/-- `build_data` (R115): a one-byte fragment takes the SO form, every other the payload with its CRC. -/
def buildData (sel : CrcSel) (sn an eor : Bool) (bytes : List Byte) : List Byte :=
  let c := mkCtl 0x40 sn an ||| bitAt eor 1
  match bytes with
  | [b] => makeHeader (c ||| 0x01) b
  | _ => makeHeader c (lenByte bytes) ++ bytes ++ crcBytes (crc16 sel bytes)

/-- `build_ctl` (R116). -/
def buildCtl (c l : Byte) : List Byte := makeHeader c l

/-- `follow` (R117): how many payload bytes and CRC bytes follow a validated header. -/
def follow (c l : Byte) : Nat × Nat :=
  if ctlSo c || !hasData c l then (0, 0)
  else if l == 1 then (1, 0)
  else (l.toNat, 2)

/-- `payload_of` (R118), with the framer's payload bytes `rx_pay[0..l)` as an argument. -/
def payloadOf (c l : Byte) (pay : List Byte) : List Byte :=
  if ctlSo c then [l] else if hasData c l then pay else []

/-- `retransmittable` (42_retransmission_timers.md R190), on the control and `data_length` bytes of a packet. -/
def retransmittable (p : List Byte) : Bool :=
  hasData (p.getD 1 0) (p.getD 2 0) || (p.getD 1 0 &&& 0xB0) != 0

end Sys2Proof.Machine
end

