-- ==== Sys2Proof/Syntax.lean ====
section
/-! DEFINITION. The instructions: one constructor for each row of spec/opcode_table.json (30_encoding.md R101), and the
form in which the environment presents them. -/

namespace Sys2Proof

/-- The operations of the block. The first nine are the packet forms of R88 and the layout P1 of R87: as an instruction
a packet form is the reception of that packet at the time `now` (RXPKT, R100; log 5). The other ten are the events of
R96. `k` is the `header_checksum` byte as it arrives, right or wrong. -/
inductive Instr where
  /-- SYN: control 0x80, data_length 255. -/
  | syn (now : Time) (k : Byte)
  /-- SYN and ACK: control 0xC0 or 0xC4, data_length 255. -/
  | synack (now : Time) (an : Bool) (k : Byte)
  /-- Bare acknowledgment, data_length 0. -/
  | ack (now : Time) (sn an : Bool) (k : Byte)
  /-- Reset, data_length 0. -/
  | rst (now : Time) (sn : Bool) (k : Byte)
  /-- Reset and ACK, data_length 0. -/
  | rstack (now : Time) (sn an : Bool) (k : Byte)
  /-- FIN and ACK, data_length 0. -/
  | finack (now : Time) (sn an : Bool) (k : Byte)
  /-- Layout PC: 2 to 255 payload bytes and a CRC, high byte first; data_length is the payload's length. -/
  | data (now : Time) (sn an eor : Bool) (k : Byte) (payload : List Byte) (crc : BitVec 16)
  /-- The one-byte SO form: `b` stands in the data_length field. -/
  | data1 (now : Time) (sn an eor : Bool) (b k : Byte)
  /-- Layout P1, received only: data_length 1, one payload byte, no CRC; `ackf` is the ACK flag. -/
  | datap1 (now : Time) (ackf sn an eor : Bool) (k : Byte) (b : Byte)
  /-- Active open. -/
  | opena (now : Time)
  /-- Passive open. -/
  | openp (now : Time)
  /-- Queue one outbound fragment. -/
  | txpush (now : Time) (eor : Bool) (tag : Tag) (bytes : List Byte)
  /-- Take one inbound fragment. -/
  | rxpop (now : Time)
  /-- Start the local close. -/
  | close (now : Time)
  /-- Destroy the connection record. -/
  | release (now : Time)
  /-- Write `max_retries`. -/
  | wrcfg (now : Time) (value : Byte)
  /-- One byte from the channel. -/
  | rxb (now : Time) (byte : Byte)
  /-- Timer check. -/
  | tmr (now : Time)
  /-- Dispatch check. -/
  | dsp (now : Time)
  deriving DecidableEq, Repr

/-- Who issued an event (the "issued by" column of R96). It matters for reserved codes only (R97). -/
inductive Issuer where
  | host
  | channel
  | time
  | engine
  deriving DecidableEq, Repr

/-- What the environment presents to the block at one point of the order of events (R43, R70): an event record of R98;
the bytes of one packet, all arriving at the same `now` (RXPKT, R100); or an operation with its operands as they are,
for those that a record has no room for: a `now` or a tag of a wider port, a TXPUSH of more than 255 bytes (log 1). -/
inductive Arrival where
  | record (issuer : Issuer) (bytes : List Byte)
  | packet (now : Time) (bytes : List Byte)
  | event (i : Instr)
  deriving DecidableEq, Repr

end Sys2Proof
end

