-- ==== Sys2Proof/WellFormed.lean ====
section
/-! DEFINITION. Which terms of Instr have an encoding: operands that fit the fields of their encoding. Every other field
of an instruction fits by its type. -/

namespace Sys2Proof

/-- The DATA row holds 2 to 255 payload bytes (R87, R101: the constraint `data_length >= 2`). -/
abbrev DataFits (payload : List Byte) : Prop := 2 ≤ payload.length ∧ payload.length ≤ 255

/-- A record holds `now` in four bytes (R98). -/
abbrev NowFits (now : Time) : Prop := now < 2 ^ 32

/-- A TXPUSH record holds the tag in two bytes (R98). -/
abbrev TagFits (tag : Tag) : Prop := tag < 2 ^ 16

/-- A TXPUSH record holds `n = len(data)` in one byte (R98). The command itself takes a longer list and refuses it. -/
abbrev PushFits (bytes : List Byte) : Prop := bytes.length ≤ 255

/-- Whether an instruction's operands fit its encoding. -/
def Instr.wellFormed : Instr → Bool
  | .syn _ _ => true
  | .synack _ _ _ => true
  | .ack _ _ _ _ => true
  | .rst _ _ _ => true
  | .rstack _ _ _ _ => true
  | .finack _ _ _ _ => true
  | .data _ _ _ _ _ payload _ => decide (DataFits payload)
  | .data1 _ _ _ _ _ _ => true
  | .datap1 _ _ _ _ _ _ _ => true
  | .opena now => decide (NowFits now)
  | .openp now => decide (NowFits now)
  | .txpush now _ tag bytes => decide (NowFits now ∧ TagFits tag ∧ PushFits bytes)
  | .rxpop now => decide (NowFits now)
  | .close now => decide (NowFits now)
  | .release now => decide (NowFits now)
  | .wrcfg now _ => decide (NowFits now)
  | .rxb now _ => decide (NowFits now)
  | .tmr now => decide (NowFits now)
  | .dsp now => decide (NowFits now)

/-- The same as a proposition. -/
abbrev Instr.WellFormed (i : Instr) : Prop := i.wellFormed = true

end Sys2Proof
end

