-- ==== Sys2Proof/Decode.lean ====
section
/-! DEFINITION. The decoder of event records (30_encoding.md R98) and of packet forms (R88, R101), total on any bytes
and rejecting by name; then the encoder. -/

namespace Sys2Proof

open Machine

/-- Why bytes are no instruction of the table. -/
inductive DecodeError where
  /-- An event code 0x0 or 0xB to 0xF (R97). -/
  | reservedCode (code : Nat)
  /-- Bits 7:4 of a record's byte 0 are not zero (R98). -/
  | codeHighBits
  /-- The record ends before its operands do (R98). -/
  | shortRecord
  /-- The `eor` byte of a TXPUSH record is neither 0 nor 1 (R98). -/
  | eorByte
  /-- Bytes follow the record's last operand (R98). -/
  | longRecord
  /-- The packet does not begin with `SYNCH` (R91). -/
  | noSynch
  /-- The header is of none of the nine forms (R89: the framer takes it all the same). -/
  | noForm
  /-- The packet ends before its header's payload and CRC do (R87). -/
  | shortPacket
  /-- Bytes follow the packet's last byte (R87). -/
  | longPacket
  deriving DecidableEq, Repr

/-- The nine packet rows of the table. -/
inductive Form where
  | syn | synack | ack | rst | rstack | finack | data | data1 | datap1
  deriving DecidableEq, Repr

/-- The row a header belongs to, by the `match` and `mask` of the table and the constraint of the DATA row (R101): the
control byte is masked with byte 2 of the mask; `data_length` is compared where the mask covers it. -/
def formOf (c l : Byte) : Option Form :=
  if c == 0x80 && l == 0xFF then some .syn
  else if (c &&& 0xFB) == 0xC0 && l == 0xFF then some .synack
  else if (c &&& 0xF3) == 0x40 && l == 0 then some .ack
  else if (c &&& 0xF7) == 0x10 && l == 0 then some .rst
  else if (c &&& 0xF3) == 0x50 && l == 0 then some .rstack
  else if (c &&& 0xF3) == 0x60 && l == 0 then some .finack
  else if (c &&& 0xF1) == 0x40 && decide (2 ≤ l.toNat) then some .data
  else if (c &&& 0xF1) == 0x41 then some .data1
  else if (c &&& 0xB1) == 0x00 && l == 1 then some .datap1
  else none

/-- A packet form and the bytes left after it. -/
def decodePacket (now : Time) (bytes : List Byte) : Except DecodeError (Instr × List Byte) :=
  match bytes with
  | y :: c :: l :: k :: rest =>
    if y != synch then .error .noSynch else
    match formOf c l with
    | none => .error .noForm
    | some .syn => .ok (.syn now k, rest)
    | some .synack => .ok (.synack now (ctlAn c) k, rest)
    | some .ack => .ok (.ack now (ctlSn c) (ctlAn c) k, rest)
    | some .rst => .ok (.rst now (ctlSn c) k, rest)
    | some .rstack => .ok (.rstack now (ctlSn c) (ctlAn c) k, rest)
    | some .finack => .ok (.finack now (ctlSn c) (ctlAn c) k, rest)
    | some .data =>
      match rest.drop l.toNat with
      | h :: g :: after => .ok (.data now (ctlSn c) (ctlAn c) (ctlEor c) k (rest.take l.toNat) (join16 h g), after)
      | _ => .error .shortPacket
    | some .data1 => .ok (.data1 now (ctlSn c) (ctlAn c) (ctlEor c) l k, rest)
    | some .datap1 =>
      match rest with
      | b :: after => .ok (.datap1 now (ctlAck c) (ctlSn c) (ctlAn c) (ctlEor c) k b, after)
      | [] => .error .shortPacket
  | _ => .error .shortPacket

/-- The operands of a TXPUSH record: `eor`, `tag`, `n`, then `n` data bytes (R98). -/
def decodePush (now : Time) (bytes : List Byte) : Except DecodeError (Instr × List Byte) :=
  match bytes with
  | e :: g1 :: g0 :: n :: rest =>
    if e != 0 && e != 1 then .error .eorByte
    else if rest.length < n.toNat then .error .shortRecord
    else .ok (.txpush now (e == 1) (join16 g1 g0).toNat (rest.take n.toNat), rest.drop n.toNat)
  | _ => .error .shortRecord

/-- The operands of an event record, by its code (R96, R98). -/
def decodeEvent (code : Nat) (now : Time) (bytes : List Byte) : Except DecodeError (Instr × List Byte) :=
  match code, bytes with
  | 1, rest => .ok (.opena now, rest)
  | 2, rest => .ok (.openp now, rest)
  | 3, rest => decodePush now rest
  | 4, rest => .ok (.rxpop now, rest)
  | 5, rest => .ok (.close now, rest)
  | 6, rest => .ok (.release now, rest)
  | 7, v :: rest => .ok (.wrcfg now v, rest)
  | 8, b :: rest => .ok (.rxb now b, rest)
  | 9, rest => .ok (.tmr now, rest)
  | 10, rest => .ok (.dsp now, rest)
  | 7, [] => .error .shortRecord
  | 8, [] => .error .shortRecord
  | n, _ => .error (.reservedCode n)

/-- An event record and the bytes left after it: the code in bits 3:0 of byte 0, `now` in the next four bytes, most
significant first, then the operands (R98). -/
def decodeRecord (bytes : List Byte) : Except DecodeError (Instr × List Byte) :=
  match bytes with
  | b0 :: t3 :: t2 :: t1 :: t0 :: rest =>
    if (b0 &&& 0xF0) != 0 then .error .codeHighBits
    else decodeEvent b0.toNat (join32 t3 t2 t1 t0).toNat rest
  | _ => .error .shortRecord

/-- What the environment presented, as an instruction: exactly one record, exactly one packet of a row, or the operation
itself. -/
def decodeArrival (a : Arrival) : Except DecodeError Instr :=
  match a with
  | .record _ bytes =>
    match decodeRecord bytes with
    | .ok (i, []) => .ok i
    | .ok (_, _ :: _) => .error .longRecord
    | .error e => .error e
  | .packet now bytes =>
    match decodePacket now bytes with
    | .ok (i, []) => .ok i
    | .ok (_, _ :: _) => .error .longPacket
    | .error e => .error e
  | .event i => .ok i

/-! The encoder, from the same tables. -/

/-- The control byte of a data packet: ACK, SN, AN, EOR (R88, R115). -/
def dataCtl (flags : Byte) (sn an eor : Bool) : Byte := mkCtl flags sn an ||| bitAt eor 1

/-- An event record: code, `now`, operands (R98). -/
def recordBytes (code : Byte) (now : Time) (operands : List Byte) : List Byte :=
  code :: (bytes32 (BitVec.ofNat 32 now) ++ operands)

/-- The bytes of an instruction: the packet on the wire, or the event record. -/
def encodeBytes : Instr → List Byte
  | .syn _ k => headerBytes 0x80 0xFF k
  | .synack _ an k => headerBytes (mkCtl 0xC0 false an) 0xFF k
  | .ack _ sn an k => headerBytes (mkCtl 0x40 sn an) 0 k
  | .rst _ sn k => headerBytes (mkCtl 0x10 sn false) 0 k
  | .rstack _ sn an k => headerBytes (mkCtl 0x50 sn an) 0 k
  | .finack _ sn an k => headerBytes (mkCtl 0x60 sn an) 0 k
  | .data _ sn an eor k payload crc => headerBytes (dataCtl 0x40 sn an eor) (lenByte payload) k ++ payload ++ crcBytes crc
  | .data1 _ sn an eor b k => headerBytes (dataCtl 0x41 sn an eor) b k
  | .datap1 _ ackf sn an eor k b => headerBytes (dataCtl (bitAt ackf 6) sn an eor) 1 k ++ [b]
  | .opena now => recordBytes 0x1 now []
  | .openp now => recordBytes 0x2 now []
  | .txpush now eor tag bytes =>
      recordBytes 0x3 now ([bitAt eor 0, hi16 (BitVec.ofNat 16 tag), lo16 (BitVec.ofNat 16 tag), lenByte bytes] ++ bytes)
  | .rxpop now => recordBytes 0x4 now []
  | .close now => recordBytes 0x5 now []
  | .release now => recordBytes 0x6 now []
  | .wrcfg now value => recordBytes 0x7 now [value]
  | .rxb now byte => recordBytes 0x8 now [byte]
  | .tmr now => recordBytes 0x9 now []
  | .dsp now => recordBytes 0xA now []

/-- An instruction as the environment presents it: packets on the channel, events as records of their issuer (R96). -/
def encode (i : Instr) : Arrival :=
  match i with
  | .syn now _ | .synack now _ _ | .ack now _ _ _ | .rst now _ _ | .rstack now _ _ _ | .finack now _ _ _
  | .data now _ _ _ _ _ _ | .data1 now _ _ _ _ _ | .datap1 now _ _ _ _ _ _ => .packet now (encodeBytes i)
  | .opena _ | .openp _ | .txpush _ _ _ _ | .rxpop _ | .close _ | .release _ | .wrcfg _ _ => .record .host (encodeBytes i)
  | .rxb _ _ => .record .channel (encodeBytes i)
  | .tmr _ => .record .time (encodeBytes i)
  | .dsp _ => .record .engine (encodeBytes i)

/-! Words of the opcode table. -/

/-- How many operand bytes of zeros complete a record whose code is `code` and whose operands are zero (R98). -/
def zeroOperands (code : Nat) : Nat :=
  match code with
  | 3 => 4
  | 7 => 1
  | 8 => 1
  | _ => 0

/-- An instruction given as the table numbers its bits, every later bit 0: up to 8 bits are byte 0 of an event record
(R98), more are the header word of R81, whose bits 31:24 are the first byte on the wire, with as many payload and CRC
bytes of zero as the header announces (log 14). -/
def tableArrival (nbits w : Nat) : Arrival :=
  if nbits ≤ 8 then
    .record .host (BitVec.ofNat 8 w :: List.replicate (4 + zeroOperands (w % 256)) 0)
  else
    let c := BitVec.ofNat 8 (w / 2 ^ 16)
    let l := BitVec.ofNat 8 (w / 2 ^ 8)
    .packet 0 ([BitVec.ofNat 8 (w / 2 ^ 24), c, l, BitVec.ofNat 8 w] ++
      List.replicate ((follow c l).1 + (follow c l).2) 0)

/-- The instruction the decoder reads from an instruction given as the table numbers its bits. -/
def decodeTableWord (nbits w : Nat) : Option Instr :=
  match decodeArrival (tableArrival nbits w) with
  | .ok i => some i
  | .error _ => none

end Sys2Proof
end

