-- ==== Sys2Proof/Machine/Estimator.lean ====
section
/-! DEFINITION. Time differences and the round-trip estimator: pure functions (00_scope.md R10,
42_retransmission_timers.md R194). -/

namespace Sys2Proof.Machine

/-- `elapsed(a, b)` with `w` = `TIME_W`: the time from stamp `a` to stamp `b`, `(b - a) mod 2^TIME_W` (R10). -/
def elapsed (w : Nat) (a b : Time) : Nat := (b + (2 ^ w - a % 2 ^ w)) % 2 ^ w

/-- `RTO_MIN`, ms (R7). -/
def rtoMin : Nat := 200

/-- The smoothed round-trip time after a sample of `rtt` ms: `floor((8 * srtt + 2 * rtt) / 10)` (R194). Where that number
has no room in 32 bits the spec states no result, and the value is free (log 15). -/
def srttNext (srtt : Millis) (rtt : Nat) : Millis :=
  let next := (8 * srtt.toNat + 2 * rtt) / 10
  if next < 2 ^ 32 then BitVec.ofNat 32 next else Config.srttBeyond next

/-- The retransmission timeout of a smoothed round-trip time: `min(2^32 - 1, max(200, floor(15 * srtt / 10)))`
(R29, R194). -/
def rtoOf (srtt : Millis) : Millis := BitVec.ofNat 32 (min (2 ^ 32 - 1) (max rtoMin (15 * srtt.toNat / 10)))

/-- How long TIME_WAIT lasts, ms: `2 * srtt`, as a natural number (R197). -/
def timeWaitLength (srtt : Millis) : Nat := 2 * srtt.toNat

end Sys2Proof.Machine
end

