-- ==== Sys2Proof/Machine/State.lean ====
section
/-! DEFINITION. The state of the block (10_state.md), the reasons a step can stop, and the state after reset. -/

namespace Sys2Proof.Machine

/-- The nine connection states, in the spec's order of encoding 0 to 8 (R22). Encodings 9 to 15, which no rule writes,
are not representable (U8; log 11). -/
inductive ConnState where
  | listen
  | synSent
  | synReceived
  | established
  | finWait
  | lastAck
  | closing
  | timeWait
  | closed
  deriving DecidableEq, Repr

/-- The eight 3-bit codes of 60_exceptions.md R250, in their order 0 to 7: `status`, responses and completions. -/
inductive Code where
  | ok
  | connectionRefused
  | connectionReset
  | timeout
  | networkDown
  | badMessage
  | wouldBlock
  | refused
  deriving DecidableEq, Repr

/-- Which byte the framer awaits, in the order of the encoding 0 to 6 (R34). -/
inductive RxPhase where
  | hunt
  | ctl
  | len
  | cks
  | pay
  | crch
  | crcl
  deriving DecidableEq, Repr

/-- An entry of `txq` (R32). -/
structure TxEntry where
  bytes : List Byte
  eor : Bool
  tag : Tag
  deriving DecidableEq, Repr

/-- An entry of `rxq`, and the payload of an RXPOP response (R33, R219). -/
structure RxEntry where
  bytes : List Byte
  eor : Bool
  deriving DecidableEq, Repr

/-- One output of an event (R44): a packet handed to the transport, a completion, or a command's response. -/
inductive Output where
  | tx (packet : List Byte)
  | complete (tag : Tag) (code : Code)
  | respond (code : Code) (payload : Option RxEntry)
  deriving DecidableEq, Repr

/-- A byte buffer of the block (20_memory.md R60) in one canonical form: indices strictly rising, and no listed byte
equal to what an unlisted index reads as (0; log 6, log 10). -/
abbrev Memory := List Host.Cell

/-- Everything the spec gives the block (10_state.md R20), and three fields of the model's own. -/
@[ext]
structure State where
  /-- MODEL's own: the parameters of R8; no step changes them (log 3). -/
  cfg : Config
  /-- `open` (R21) -/
  opened : Bool
  /-- `state` (R22) -/
  conn : ConnState
  /-- `active` (R23) -/
  active : Bool
  /-- `sn_sent` (R24) -/
  snSent : Bool
  /-- `sn_received` (R25) -/
  snReceived : Bool
  /-- `status` (R26) -/
  status : Code
  /-- `rtx_valid` (R27) -/
  rtxValid : Bool
  /-- `rtx_len`, 0 to 261 (R27; log 9) -/
  rtxLen : Nat
  /-- `rtx_buf`, 261 bytes (R27) -/
  rtxBuf : Memory
  /-- `rtx_ts`, `TIME_W` bits (R27) -/
  rtxTs : Time
  /-- `retry` (R27) -/
  retry : BitVec 8
  /-- `max_retries` (R28) -/
  maxRetries : BitVec 8
  /-- `srtt` (R29) -/
  srtt : Millis
  /-- `rto` (R29) -/
  rto : Millis
  /-- `tw_ts`, `TIME_W` bits (R30) -/
  twTs : Time
  /-- `cur_valid` (R31) -/
  curValid : Bool
  /-- `cur_tag`, `TAG_W` bits (R31) -/
  curTag : Tag
  /-- `txq`, head first (R32) -/
  txq : List TxEntry
  /-- `rxq`, head first (R33) -/
  rxq : List RxEntry
  /-- `rx_phase` (R34) -/
  rxPhase : RxPhase
  /-- `rx_ctl` (R34) -/
  rxCtl : Byte
  /-- `rx_len` (R34) -/
  rxLen : Byte
  /-- `rx_pay`, 255 bytes (R34) -/
  rxPay : Memory
  /-- `rx_cnt` (R34) -/
  rxCnt : BitVec 8
  /-- `rx_crc_hi` (R34) -/
  rxCrcHi : Byte
  /-- `rx_ts`, `TIME_W` bits (R34) -/
  rxTs : Time
  /-- `busy` (R35) -/
  busy : Bool
  /-- MODEL's own: what the environment presents next, head first (R43, R70; log 1). -/
  inbox : List Arrival
  /-- MODEL's own: the outputs of all events so far, in order (R44; log 2). -/
  outs : List Output
  deriving DecidableEq, Repr

/-- Why the machine stops with a fault. -/
inductive Fault where
  /-- Raised by the seven host commands when they are presented while `busy = 1`: the spec gives that case no behaviour
  (R288, U11; log 7). Safe: no event leaves `busy = 1`, and the model claims nothing beyond the stop. -/
  | commandWhileBusy
  deriving DecidableEq, Repr

/-- Why a step has no meaning. -/
inductive Refusal where
  /-- Raised by an arm of exec whose instruction has no meaning yet. Safe: nothing is claimed of the instruction. -/
  | notModelled (mnemonic : String)
  /-- Raised by step when the environment presents bytes that are no event record of R98 (log 8). Safe: such bytes are no
  event of the block, and the model claims nothing beyond the stop. -/
  | malformedRecord
  deriving DecidableEq, Repr

/-- The registers of R45 at their reset values, for given parameters, `max_retries`, inbox and outputs: hardware reset,
and what RELEASE, OPENA and OPENP set up (R281). The registers that R45 calls unspecified are zero (log 6). -/
def State.resetWith (cfg : Config) (maxRetries : BitVec 8) (inbox : List Arrival) (outs : List Output) : State where
  cfg := cfg
  opened := false
  conn := .closed
  active := false
  snSent := false
  snReceived := false
  status := .ok
  rtxValid := false
  rtxLen := 0
  rtxBuf := []
  rtxTs := 0
  retry := 0
  maxRetries := maxRetries
  srtt := cfg.srttInit
  rto := rtoOf cfg.srttInit
  twTs := 0
  curValid := false
  curTag := 0
  txq := []
  rxq := []
  rxPhase := .hunt
  rxCtl := 0
  rxLen := 0
  rxPay := []
  rxCnt := 0
  rxCrcHi := 0
  rxTs := 0
  busy := false
  inbox := inbox
  outs := outs

/-- The state after hardware reset (R45, R280): `max_retries` = 100 (R28), the default parameters (R8), nothing presented
and nothing emitted yet. -/
def State.reset : State := State.resetWith Config.default 100 [] []

end Sys2Proof.Machine
end

