-- ==== Sys2Proof/Machine/Ops.lean ====
section
/-! DEFINITION. The named operations over buffers, queues, outputs and the retransmit slot; the failure entry; the soft
reset. Every meaning is written over these. -/

namespace Sys2Proof.Machine

/-! ## Byte buffers (20_memory.md R60, R65, R67) -/

/-- What an unlisted index of a buffer reads as (log 6). -/
def Memory.unlisted : Byte := 0

/-- The byte at index `a`. -/
def Memory.read (m : Memory) (a : Nat) : Byte :=
  match m with
  | [] => Memory.unlisted
  | (x, v) :: rest => if x = a then v else Memory.read rest a

/-- The buffer with byte `v` at index `a`, kept in canonical form. -/
def Memory.write (m : Memory) (a : Nat) (v : Byte) : Memory :=
  match m with
  | [] => if v = Memory.unlisted then [] else [(a, v)]
  | (x, w) :: rest =>
    if a < x then (if v = Memory.unlisted then (x, w) :: rest else (a, v) :: (x, w) :: rest)
    else if a = x then (if v = Memory.unlisted then rest else (a, v) :: rest)
    else (x, w) :: Memory.write rest a v

/-- `buf[a .. a + len) <- bytes`. -/
def Memory.writeBytes (m : Memory) (a : Nat) (bytes : List Byte) : Memory :=
  match bytes with
  | [] => m
  | b :: rest => Memory.writeBytes (Memory.write m a b) (a + 1) rest

/-- `buf[a .. a + n)`. -/
def Memory.readBytes (m : Memory) (a n : Nat) : List Byte :=
  match n with
  | 0 => []
  | k + 1 => Memory.read m a :: Memory.readBytes m (a + 1) k

/-- Every index listed in `m` is at least `lo` and below `hi`, the indices rise strictly, and no zero byte is listed. -/
def Memory.wfFrom (lo hi : Nat) (m : Memory) : Bool :=
  match m with
  | [] => true
  | (x, v) :: rest => decide (lo ≤ x) && decide (x < hi) && decide (v ≠ Memory.unlisted) && Memory.wfFrom (x + 1) hi rest

/-- The canonical form of a buffer of `size` bytes. -/
def Memory.wf (size : Nat) (m : Memory) : Bool := Memory.wfFrom 0 size m

/-- The number of bytes of `rtx_buf` (R27). -/
def rtxBufSize : Nat := 261

/-- The number of bytes of `rx_pay` (R34). -/
def rxPaySize : Nat := 255

/-! ## Queues (R32, R33) -/

/-- `Full(q)`: a queue holds as many entries as its depth allows; an unbounded queue is never full (R8, R36). -/
def queueFull (depth : Option Nat) (entries : Nat) : Bool :=
  match depth with
  | none => false
  | some d => decide (d ≤ entries)

/-! ## Outputs (00_scope.md R10, 10_state.md R44) -/

/-- `Emit(bytes)` (40_codec_framer.md R131). -/
def emit (p : List Byte) (s : State) : State := { s with outs := s.outs ++ [.tx p] }

/-- `Complete(tag, code)`. -/
def complete (tag : Tag) (code : Code) (s : State) : State := { s with outs := s.outs ++ [.complete tag code] }

/-- The response of a command. -/
def respond (code : Code) (payload : Option RxEntry) (s : State) : State :=
  { s with outs := s.outs ++ [.respond code payload] }

/-! ## Time and tags of the parameters' widths (10_state.md R43, R31) -/

/-- `now` as the block samples it at the start of an event: `TIME_W` bits (R43). -/
def sampled (s : State) (now : Time) : Time := now % 2 ^ s.cfg.timeW

/-- A tag as the block holds it: `TAG_W` bits (R31). -/
def tagBits (s : State) (tag : Tag) : Tag := tag % 2 ^ s.cfg.tagW

/-- The time since a stamp, at `now` (R10). -/
def since (s : State) (stamp now : Time) : Nat := elapsed s.cfg.timeW stamp now

/-! ## The retransmit slot (42_retransmission_timers.md) -/

/-- The outstanding fragment, if there is one, is completed with `code` (R205, R256, R194). -/
def settle (code : Code) (s : State) : State :=
  if s.curValid then { complete s.curTag code s with curValid := false } else s

/-- A packet is copied into the retransmit slot: buffer, length, stamp, `retry`, valid bit (R191). -/
def loadSlot (p : List Byte) (now : Time) (s : State) : State :=
  { s with
    rtxBuf := s.rtxBuf.writeBytes 0 p
    rtxLen := p.length
    rtxTs := now
    retry := 0
    rtxValid := true }

/-- The packet in the slot: `rtx_buf[0..rtx_len)` (R198). -/
def slotPacket (s : State) : List Byte := s.rtxBuf.readBytes 0 s.rtxLen

/-- `SendSeg` (R191): emit, and enter the slot when the packet is retransmittable; a fragment displaced from the slot by
another packet is completed with ConnectionReset (R205). -/
def sendSeg (p : List Byte) (now : Time) (ownDispatch : Bool) (s : State) : State :=
  if retransmittable p then
    loadSlot p now (if ownDispatch then emit p s else settle .connectionReset (emit p s))
  else emit p s

/-- The estimator's part of an accepted acknowledgment (R194): sample, update, clear the slot. -/
def sampleRtt (now : Time) (s : State) : State :=
  let srtt' := srttNext s.srtt (since s s.rtxTs now)
  { s with srtt := srtt', rto := rtoOf srtt', rtxValid := false, retry := 0 }

/-- `AckAccepted` (R194). -/
def ackAccepted (now : Time) (s : State) : State :=
  settle .ok (if s.rtxValid then sampleRtt now s else s)

/-! ## Dispatch (R200) -/

/-- `DispatchReady()`. -/
def dispatchReady (s : State) : Bool :=
  s.opened && s.conn == .established && !s.curValid && !s.rtxValid && !s.txq.isEmpty

/-- `Dispatch(now)`, called only when `dispatchReady`; an empty queue leaves the state as it is. -/
def dispatch (now : Time) (s : State) : State :=
  match s.txq with
  | [] => s
  | e :: rest =>
    let s1 := { s with txq := rest, curValid := true, curTag := e.tag, snSent := !s.snSent }
    sendSeg (buildData s1.cfg.crc s1.snSent (!s1.snReceived) e.eor e.bytes) now true s1

/-! ## The failure entry and the soft reset -/

/-- `Fail(code)` (60_exceptions.md R256): what stands here in the place of taking an exception. There is no return from
it (R262); the only way on is `resetTcb` by RELEASE. -/
def fail (code : Code) (s : State) : State :=
  settle code { s with status := code, conn := .closed, rtxValid := false }

/-- Every register of R45 at its reset value, except `max_retries` (R216, R217, R221, R281). -/
def resetTcb (s : State) : State := State.resetWith s.cfg s.maxRetries s.inbox s.outs

/-! ## Events (10_state.md R35, 00_scope.md R10) -/

/-- One atomic event: `busy` is 1 from its start to its end (R35). -/
def event (f : State → State) (s : State) : State := { f { s with busy := true } with busy := false }

/-- An event that no guard precedes: RXB, TMR, DSP. -/
def runEvent (f : State → State) (s : State) : Host.Outcome State Fault Refusal := .next (event f s)

/-- A host command: presented while `busy = 1` it has no behaviour that the spec defines (R288; log 7). -/
def runCommand (f : State → State) (s : State) : Host.Outcome State Fault Refusal :=
  if s.busy then .fault .commandWhileBusy else .next (event f s)

end Sys2Proof.Machine
end

