-- ==== Sys2Proof/Machine/Operands.lean ====
section
/-! DEFINITION. The packet record that the state machine works on, with its operands; the numeric encodings of the
enumerations. -/

namespace Sys2Proof.Machine

/-- The packet record handed to the state machine: control byte, raw `data_length` byte, logical payload (R119). -/
structure Pkt where
  ctl : Byte
  len : Byte
  bytes : List Byte
  deriving DecidableEq, Repr

/-- `SNb`, the received SN (R140). -/
def pktSn (p : Pkt) : Bool := ctlSn p.ctl
/-- `ANb`, the received AN (R140). -/
def pktAn (p : Pkt) : Bool := ctlAn p.ctl
def pktSyn (p : Pkt) : Bool := ctlSyn p.ctl
def pktAck (p : Pkt) : Bool := ctlAck p.ctl
def pktFin (p : Pkt) : Bool := ctlFin p.ctl
def pktRst (p : Pkt) : Bool := ctlRst p.ctl
/-- `EORb` (R140). -/
def pktEor (p : Pkt) : Bool := ctlEor p.ctl
/-- `has_data(ctl, len)` of the packet (R113). -/
def pktHasData (p : Pkt) : Bool := hasData p.ctl p.len

/-- `rsn(ctl)`: the sequence number the peer says it expects, or 0 when it says nothing (R143, D46). -/
def rsn (p : Pkt) : Bool := pktAck p && pktAn p

/-- `sn_expected`: the received SN is the successor of the last accepted one (R141). -/
def snExpected (p : Pkt) (s : State) : Bool := pktSn p == !s.snReceived

/-- `an_expected`: the received AN is the successor of the last SN sent (R142). -/
def anExpected (p : Pkt) (s : State) : Bool := pktAn p == !s.snSent

/-- The encoding of `state` (R22). -/
def connCode (c : ConnState) : BitVec 4 :=
  match c with
  | .listen => 0
  | .synSent => 1
  | .synReceived => 2
  | .established => 3
  | .finWait => 4
  | .lastAck => 5
  | .closing => 6
  | .timeWait => 7
  | .closed => 8

/-- The encoding of `status`, responses and completions (R250). -/
def codeBits (c : Code) : BitVec 3 :=
  match c with
  | .ok => 0
  | .connectionRefused => 1
  | .connectionReset => 2
  | .timeout => 3
  | .networkDown => 4
  | .badMessage => 5
  | .wouldBlock => 6
  | .refused => 7

/-- The encoding of `rx_phase` (R34). -/
def phaseCode (p : RxPhase) : BitVec 3 :=
  match p with
  | .hunt => 0
  | .ctl => 1
  | .len => 2
  | .cks => 3
  | .pay => 4
  | .crch => 5
  | .crcl => 6

end Sys2Proof.Machine
end

