-- ==== Sys2Proof/Machine/Flags.lean ====
section
/-! DEFINITION. The derived status flags (10_state.md R36) and the host-visible registers (R38): pure functions of the
state, readable between events without effect (R223). -/

namespace Sys2Proof.Machine

def isClosed (s : State) : Bool := s.opened && s.conn == .closed
def isBusy (s : State) : Bool := s.busy
def established (s : State) : Bool := s.opened && s.conn == .established
/-- Some entry of `rxq` ends a message. -/
def rxReady (s : State) : Bool := s.rxq.any (·.eor)
def rxNonempty (s : State) : Bool := !s.rxq.isEmpty
def txIdle (s : State) : Bool := !s.curValid && !s.rtxValid
def txFull (s : State) : Bool := queueFull s.cfg.txqDepth s.txq.length

/-- Register 1, `STATE`: `[3:0] state`, `[4] open`, `[5] active`, `[6] sn_sent`, `[7] sn_received`. -/
def stateReg (s : State) : Byte :=
  (connCode s.conn).setWidth 8 ||| bitAt s.opened 4 ||| bitAt s.active 5 ||| bitAt s.snSent 6 ||| bitAt s.snReceived 7

/-- Register 2, `FLAGS`; bit 7 reads 0. -/
def flagsReg (s : State) : Byte :=
  bitAt (isClosed s) 0 ||| bitAt (isBusy s) 1 ||| bitAt (established s) 2 ||| bitAt (rxReady s) 3 |||
    bitAt (rxNonempty s) 4 ||| bitAt (txIdle s) 5 ||| bitAt (txFull s) 6

/-- Register 3, `ERR`; bits 7:3 read 0. -/
def errReg (s : State) : Byte := (codeBits s.status).setWidth 8

/-- The register of a given index, as 32 bits; indices 7 and above read 0 (R38, U10). -/
def readReg (s : State) (index : Nat) : BitVec 32 :=
  match index with
  | 0 => s.maxRetries.setWidth 32
  | 1 => (stateReg s).setWidth 32
  | 2 => (flagsReg s).setWidth 32
  | 3 => (errReg s).setWidth 32
  | 4 => s.srtt
  | 5 => s.rto
  | 6 => s.retry.setWidth 32
  | _ => 0

end Sys2Proof.Machine
end

