-- ==== Sys2Proof/Machine/Commands.lean ====
section
/-! DEFINITION. The seven host commands (43_host_commands.md part 1). -/

namespace Sys2Proof.Machine

/-- What OPENA does when `open = 0` (R216). -/
def openActive (now : Time) (s : State) : State :=
  let s1 := sendSeg (makeHeader 0x80 0xFF) now false { resetTcb s with opened := true, active := true, busy := s.busy }
  respond .ok none { s1 with snSent := false, conn := .synSent }

/-- OPENA (R216). -/
def cmdOpenActive (now : Time) (s : State) : State :=
  if s.opened then respond .refused none s else openActive (sampled s now) s

/-- OPENP (R217). -/
def cmdOpenPassive (s : State) : State :=
  if s.opened then respond .refused none s
  else respond .ok none { resetTcb s with opened := true, active := false, conn := .listen, busy := s.busy }

/-- TXPUSH (R218): NetworkDown before Refused before WouldBlock (R259). -/
def cmdPush (bytes : List Byte) (eor : Bool) (tag : Tag) (s : State) : State :=
  if !established s then respond .networkDown none s
  else if bytes.length = 0 ∨ mdl < bytes.length then respond .refused none s
  else if txFull s then respond .wouldBlock none s
  else respond .ok none { s with txq := s.txq ++ [⟨bytes, eor, tagBits s tag⟩] }

/-- RXPOP (R219). -/
def cmdPop (s : State) : State :=
  match s.rxq with
  | [] => respond .wouldBlock none s
  | e :: rest => respond .ok (some e) { s with rxq := rest }

/-- The FIN+ACK of CLOSE and the move to FIN_WAIT (R220). -/
def startClose (now : Time) (s : State) : State :=
  let s1 := { s with snSent := !s.snSent }
  { sendSeg (makeHeader (mkCtl 0x60 s1.snSent (!s1.snReceived)) 0) now false s1 with conn := .finWait }

/-- CLOSE (R220). -/
def cmdClose (now : Time) (s : State) : State :=
  respond .ok none (if established s then startClose (sampled s now) s else s)

/-- Every queued fragment is completed with ConnectionReset, head first (R221). -/
def giveUpQueue (q : List TxEntry) (s : State) : State :=
  match q with
  | [] => s
  | e :: rest => giveUpQueue rest (complete e.tag .connectionReset s)

/-- RELEASE (R221). -/
def cmdRelease (s : State) : State :=
  respond .ok none
    (if s.opened then
      { resetTcb (giveUpQueue s.txq (settle .connectionReset s)) with busy := s.busy }
    else s)

/-- WRCFG (R222). -/
def cmdWriteConfig (value : Byte) (s : State) : State := respond .ok none { s with maxRetries := value }

/-- An event with a reserved code: Refused when the host issued it, and nothing else (R97). -/
def reservedEvent (issuer : Issuer) (s : State) : State :=
  match issuer with
  | .host => respond .refused none s
  | .channel => s
  | .time => s
  | .engine => s

end Sys2Proof.Machine
end

