-- ==== Sys2Proof/Machine/Procedures.lean ====
section
/-! DEFINITION. The connection state machine (41_state_machine.md): the nineteen packet procedures, the list of each
state, and the packet step. -/

namespace Sys2Proof.Machine

/-- How a procedure ends: `stop`, the packet is fully handled; or `continue` with the next procedure (R140, R163). -/
inductive Verdict where
  | stop (s : State)
  | cont (s : State)
  deriving DecidableEq, Repr

/-- The state a procedure leaves, however it ends. -/
def Verdict.state (v : Verdict) : State :=
  match v with
  | .stop s => s
  | .cont s => s

/-- The procedures of the source (R171). -/
inductive Proc where
  | a | b | c1 | c2 | d1 | d2 | d3 | e | f1 | f2 | f3 | g | h1 | h2 | h3 | h4 | h5 | h6 | i1
  deriving DecidableEq, Repr

/-! ## Reply helpers (R143) -/

/-- The bare ACK `<SN=received AN><AN=received SN + 1><CTL=ACK>`. -/
def ackReply (p : Pkt) (now : Time) (s : State) : State :=
  sendSeg (makeHeader (mkCtl 0x40 (rsn p) (!pktSn p)) 0) now false s

/-- The reset `<SN=received AN><CTL=RST>`, which enters the retransmit slot. -/
def rstReply (p : Pkt) (now : Time) (s : State) : State :=
  sendSeg (makeHeader (mkCtl 0x10 (rsn p) false) 0) now false s

/-- The SYN+ACK `<SN=0><AN=received SN + 1><CTL=SYN,ACK><LEN=255>` that answers a SYN, and the move to SYN_RECEIVED
(procedures A and B, R144, R145). -/
def answerSyn (p : Pkt) (now : Time) (s : State) : State :=
  { sendSeg (makeHeader (mkCtl 0xC0 false (!pktSn p)) 0xFF) now false { s with snReceived := pktSn p } with
    snSent := false
    conn := .synReceived }

/-! ## Unconnected states -/

/-- Procedure A, LISTEN (R144). -/
def procA (p : Pkt) (now : Time) (s : State) : Verdict :=
  if pktRst p then .stop s
  else if pktAck p then .stop (rstReply p now s)
  else if pktSyn p then .stop (answerSyn p now s)
  else .stop s

/-- Procedure B on a SYN with the expected acknowledgment: the slot is cleared, the connection established, and the
acknowledgment sent, with queued data if there is any (R145). -/
def completeOpen (p : Pkt) (now : Time) (s : State) : State :=
  let s1 := { ackAccepted now { s with snReceived := pktSn p } with conn := .established }
  if dispatchReady s1 then dispatch now s1 else ackReply p now s1

/-- Procedure B, SYN_SENT (R145). -/
def procB (p : Pkt) (now : Time) (s : State) : Verdict :=
  if pktAck p && !anExpected p s then .stop (if pktRst p then s else rstReply p now s)
  else if pktRst p then .stop (fail .connectionRefused s)
  else if pktSyn p then .stop (if pktAck p then completeOpen p now s else answerSyn p now s)
  else .stop s

/-! ## Sequence-number gate -/

/-- Procedure C1, SYN_RECEIVED (R146). -/
def procC1 (p : Pkt) (now : Time) (s : State) : Verdict :=
  if snExpected p s then .cont s
  else if pktRst p || pktFin p then .stop s
  else .stop (ackReply p now s)

/-- Procedure C2, ESTABLISHED, FIN_WAIT, LAST_ACK, CLOSING (R147). -/
def procC2 (p : Pkt) (now : Time) (s : State) : Verdict :=
  if snExpected p s then .cont s
  else if pktRst p || pktFin p then .stop s
  else if pktSyn p then .stop (fail .connectionReset (rstReply p now s))
  else .stop (ackReply p now s)

/-! ## RST and SYN -/

/-- Procedure D1, SYN_RECEIVED (R148, R206). -/
def procD1 (p : Pkt) (_now : Time) (s : State) : Verdict :=
  if !pktRst p then .cont s
  else if !s.active then .stop { s with rtxValid := false, retry := 0, conn := .listen }
  else .stop (fail .connectionRefused s)

/-- Procedure D2, ESTABLISHED, FIN_WAIT (R149). -/
def procD2 (p : Pkt) (_now : Time) (s : State) : Verdict :=
  if !pktRst p then .cont s else .stop (fail .connectionReset s)

/-- Procedure D3, LAST_ACK, CLOSING, TIME_WAIT (R150). -/
def procD3 (p : Pkt) (_now : Time) (s : State) : Verdict :=
  if !pktRst p then .cont s else .stop (fail .connectionReset s)

/-- Procedure E, every connected state (R151). -/
def procE (p : Pkt) (now : Time) (s : State) : Verdict :=
  if !pktSyn p then .cont s else .stop (fail .connectionReset (rstReply p now s))

/-! ## ACK handling -/

/-- Procedure F1, SYN_RECEIVED (R152). -/
def procF1 (p : Pkt) (now : Time) (s : State) : Verdict :=
  if !pktAck p then .stop s
  else if anExpected p s then .cont (ackAccepted now s)
  else if !s.active then .stop { rstReply p now s with conn := .listen }
  else .stop (fail .connectionRefused (rstReply p now s))

/-- Procedure F2, ESTABLISHED (R153). -/
def procF2 (p : Pkt) (now : Time) (s : State) : Verdict :=
  if !pktAck p then .stop s
  else if anExpected p s then .cont (ackAccepted now s)
  else .cont s

/-- Procedure F3, FIN_WAIT, LAST_ACK, CLOSING, TIME_WAIT (R154). -/
def procF3 (p : Pkt) (now : Time) (s : State) : Verdict :=
  if !pktAck p then .stop s
  else if anExpected p s then .cont (ackAccepted now s)
  else .cont s

/-! ## Closed -/

/-- Procedure G, CLOSED: a correcting RST by `Emit`, which leaves the slot alone (R155). -/
def procG (p : Pkt) (_now : Time) (s : State) : Verdict :=
  if pktRst p then .stop s
  else if pktAck p then .stop (emit (makeHeader (mkCtl 0x10 (pktAn p) false) 0) s)
  else .stop (emit (makeHeader (mkCtl 0x50 false (!pktSn p)) 0) s)

/-! ## Finalization -/

/-- Procedure H1, SYN_RECEIVED (R156). -/
def procH1 (_p : Pkt) (_now : Time) (s : State) : Verdict := .cont { s with conn := .established }

/-- Procedure H2, ESTABLISHED (R157): a FIN is answered with FIN+ACK at once. -/
def procH2 (p : Pkt) (now : Time) (s : State) : Verdict :=
  if !pktFin p then .cont s
  else
    .stop
      { sendSeg (makeHeader (mkCtl 0x60 (pktAn p) (!pktSn p)) 0) now false { s with snReceived := pktSn p } with
        snSent := pktAn p
        conn := .lastAck }

/-- Procedure H3, FIN_WAIT (R158): `sn_received` is not changed (90_conflicts.md C5). -/
def procH3 (p : Pkt) (now : Time) (s : State) : Verdict :=
  if !pktFin p then .stop s
  else if pktHasData p then
    .stop (fail .connectionReset (sendSeg (makeHeader (mkCtl 0x50 (rsn p) (!pktSn p)) 0) now false s))
  else if anExpected p s then .stop { ackReply p now s with twTs := now, conn := .timeWait }
  else .stop { ackReply p now s with conn := .closing }

/-- Procedure H4, LAST_ACK (R159). -/
def procH4 (p : Pkt) (_now : Time) (s : State) : Verdict :=
  if anExpected p s then .stop (fail .connectionReset s) else .stop s

/-- Procedure H5, CLOSING (R160). -/
def procH5 (p : Pkt) (now : Time) (s : State) : Verdict :=
  if anExpected p s then .stop { s with twTs := now, conn := .timeWait } else .stop s

/-- Procedure H6, TIME_WAIT (R161). -/
def procH6 (p : Pkt) (now : Time) (s : State) : Verdict :=
  if pktFin p then .stop { ackReply p now s with twTs := now } else .stop s

/-! ## Data delivery -/

/-- Procedure I1 on data with room in `rxq`: store, record the SN, acknowledge with queued data or a bare ACK (R162). -/
def deliver (p : Pkt) (now : Time) (s : State) : State :=
  let s1 := { s with rxq := s.rxq ++ [⟨p.bytes, pktEor p⟩], snReceived := pktSn p }
  if dispatchReady s1 then dispatch now s1 else ackReply p now s1

/-- Procedure I1, SYN_RECEIVED after H1, ESTABLISHED (R162). -/
def procI1 (p : Pkt) (now : Time) (s : State) : Verdict :=
  if !pktHasData p then .stop s
  else if queueFull s.cfg.rxqDepth s.rxq.length then .stop s
  else .stop (deliver p now s)

/-! ## The lists and the packet step -/

/-- The meaning of a procedure's name. -/
def runProc (f : Proc) (p : Pkt) (now : Time) (s : State) : Verdict :=
  match f with
  | .a => procA p now s
  | .b => procB p now s
  | .c1 => procC1 p now s
  | .c2 => procC2 p now s
  | .d1 => procD1 p now s
  | .d2 => procD2 p now s
  | .d3 => procD3 p now s
  | .e => procE p now s
  | .f1 => procF1 p now s
  | .f2 => procF2 p now s
  | .f3 => procF3 p now s
  | .g => procG p now s
  | .h1 => procH1 p now s
  | .h2 => procH2 p now s
  | .h3 => procH3 p now s
  | .h4 => procH4 p now s
  | .h5 => procH5 p now s
  | .h6 => procH6 p now s
  | .i1 => procI1 p now s

/-- The procedure list of each state (R171). -/
def procList (c : ConnState) : List Proc :=
  match c with
  | .listen => [.a]
  | .synSent => [.b]
  | .synReceived => [.c1, .d1, .e, .f1, .h1, .i1]
  | .established => [.c2, .d2, .e, .f2, .h2, .i1]
  | .finWait => [.c2, .d2, .e, .f3, .h3]
  | .lastAck => [.c2, .d3, .e, .f3, .h4]
  | .closing => [.c2, .d3, .e, .f3, .h5]
  | .timeWait => [.d3, .e, .f3, .h6]
  | .closed => [.g]

/-- Procedures run in order until one stops (R140). -/
def runProcs (l : List Proc) (p : Pkt) (now : Time) (s : State) : State :=
  match l with
  | [] => s
  | f :: rest =>
    match runProc f p now s with
    | .stop t => t
    | .cont t => runProcs rest p now t

/-- `PacketStep` (R140): the list is chosen once, from the state at entry. -/
def packetStep (p : Pkt) (now : Time) (s : State) : State := runProcs (procList s.conn) p now s

end Sys2Proof.Machine
end

