-- ==== Sys2Proof/Machine/Framer.lean ====
section
/-! DEFINITION. The receive framer (40_codec_framer.md sections 2 to 4): one byte, one phase. -/

namespace Sys2Proof.Machine

/-- `rx_pay[0..n)`. -/
def payBytes (n : Nat) (s : State) : List Byte := s.rxPay.readBytes 0 n

/-- The framer returns to HUNT and hands its packet, with the logical payload `bytes`, over (R124, R125, R127, R128). -/
def handOver (bytes : List Byte) (now : Time) (s : State) : State :=
  packetStep ⟨s.rxCtl, s.rxLen, bytes⟩ now { s with rxPhase := .hunt }

/-- Phase HUNT (R121). -/
def rxHunt (byte : Byte) (s : State) : State := if byte = synch then { s with rxPhase := .ctl } else s

/-- Phase CTL (R122). -/
def rxControl (byte : Byte) (s : State) : State := { s with rxCtl := byte, rxPhase := .len }

/-- Phase LEN (R123). -/
def rxLength (byte : Byte) (s : State) : State := { s with rxLen := byte, rxPhase := .cks }

/-- Phase CKS (R124): a header that fails its checksum is discarded; one that nothing follows is a whole packet. -/
def rxChecksum (byte : Byte) (now : Time) (s : State) : State :=
  if !headerOk s.rxCtl s.rxLen byte then { s with rxPhase := .hunt }
  else if follow s.rxCtl s.rxLen = (0, 0) then
    handOver (payloadOf s.rxCtl s.rxLen (payBytes s.rxLen.toNat s)) now s
  else { s with rxCnt := 0, rxPhase := .pay }

/-- Phase PAY (R125). -/
def rxPayload (byte : Byte) (now : Time) (s : State) : State :=
  let s1 := { s with rxPay := s.rxPay.write s.rxCnt.toNat byte, rxCnt := s.rxCnt + 1 }
  if s1.rxCnt = s1.rxLen then
    if 1 < s1.rxLen.toNat then { s1 with rxPhase := .crch } else handOver (payBytes 1 s1) now s1
  else s1

/-- Phase CRCH (R126). -/
def rxCrcHigh (byte : Byte) (s : State) : State := { s with rxCrcHi := byte, rxPhase := .crcl }

/-- Phase CRCL (R127): a packet whose CRC does not match is dropped as if never received. -/
def rxCrcLow (byte : Byte) (now : Time) (s : State) : State :=
  if join16 s.rxCrcHi byte = crc16 s.cfg.crc (payBytes s.rxLen.toNat s) then
    handOver (payBytes s.rxLen.toNat s) now s
  else { s with rxPhase := .hunt }

/-- The inter-byte timeout (R129, R199): a partial packet older than `T_BYTE` is forgotten. -/
def byteTimeout (now : Time) (s : State) : State :=
  if s.rxPhase ≠ .hunt ∧ s.cfg.tByte.toNat ≤ since s s.rxTs now then { s with rxPhase := .hunt } else s

/-- One byte in the phase the framer is in (R120). -/
def rxPhaseStep (byte : Byte) (now : Time) (s : State) : State :=
  match s.rxPhase with
  | .hunt => rxHunt byte s
  | .ctl => rxControl byte s
  | .len => rxLength byte s
  | .cks => rxChecksum byte now s
  | .pay => rxPayload byte now s
  | .crch => rxCrcHigh byte s
  | .crcl => rxCrcLow byte now s

/-- The RXB event (R120) at a sampled `now`, while `open = 1`: the timeout test comes first. -/
def rxByteAt (byte : Byte) (now : Time) (s : State) : State :=
  rxPhaseStep byte now { byteTimeout now s with rxTs := now }

/-- The RXB event (R120): nothing while `open = 0`. -/
def rxByte (byte : Byte) (now : Time) (s : State) : State := if s.opened then rxByteAt byte (sampled s now) s else s

/-- RXPKT (30_encoding.md R100): the bytes of a packet as RXB events at one `now`. -/
def receive (bytes : List Byte) (now : Time) (s : State) : State :=
  match bytes with
  | [] => s
  | b :: rest => receive rest now (event (rxByte b now) s)

end Sys2Proof.Machine
end

