-- ==== Sys2Proof/Machine/Timers.lean ====
section
/-! DEFINITION. The TMR and DSP events (42_retransmission_timers.md sections 3 and 4). -/

namespace Sys2Proof.Machine

/-- Step 2 of TMR: the end of TIME_WAIT (R197). -/
def timeWaitCheck (now : Time) (s : State) : State :=
  if s.conn = .timeWait ∧ timeWaitLength s.srtt ≤ since s s.twTs now then fail .connectionReset s else s

/-- One retransmission: the slot's packet verbatim, `retry` counted, the timer restarted (R198). -/
def resend (now : Time) (s : State) : State :=
  { emit (slotPacket s) s with retry := s.retry + 1, rtxTs := now }

/-- The limit test that follows a retransmission (R198). -/
def retryLimit (s : State) : State := if s.maxRetries.toNat ≤ s.retry.toNat then fail .timeout s else s

/-- Step 3 of TMR: retransmission (R198). -/
def retransmitCheck (now : Time) (s : State) : State :=
  if s.conn ≠ .closed ∧ s.rtxValid = true ∧ s.rto.toNat ≤ since s s.rtxTs now then retryLimit (resend now s) else s

/-- The three steps of TMR at a sampled `now`: framer timeout, TIME_WAIT, retransmission, in this order (R196). -/
def timerCheckAt (now : Time) (s : State) : State := retransmitCheck now (timeWaitCheck now (byteTimeout now s))

/-- The TMR event (R196): nothing while `open = 0`. -/
def timerCheck (now : Time) (s : State) : State := if s.opened then timerCheckAt (sampled s now) s else s

/-- The DSP event (R201). -/
def dispatchCheck (now : Time) (s : State) : State :=
  if dispatchReady s then dispatch (sampled s now) s else s

end Sys2Proof.Machine
end

