-- ==== Sys2Proof/Machine/Events.lean ====
section
/-! DEFINITION. The meanings of the ten events of R96. -/

namespace Sys2Proof.Machine

/-- OPENA (R216). -/
def execOpena (now : Time) (s : State) : Host.Outcome State Fault Refusal := runCommand (cmdOpenActive now) s

/-- OPENP (R217). -/
def execOpenp (_now : Time) (s : State) : Host.Outcome State Fault Refusal := runCommand cmdOpenPassive s

/-- TXPUSH (R218). -/
def execTxpush (_now : Time) (eor : Bool) (tag : Tag) (bytes : List Byte) (s : State) :
    Host.Outcome State Fault Refusal :=
  runCommand (cmdPush bytes eor tag) s

/-- RXPOP (R219). -/
def execRxpop (_now : Time) (s : State) : Host.Outcome State Fault Refusal := runCommand cmdPop s

/-- CLOSE (R220). -/
def execClose (now : Time) (s : State) : Host.Outcome State Fault Refusal := runCommand (cmdClose now) s

/-- RELEASE (R221). -/
def execRelease (_now : Time) (s : State) : Host.Outcome State Fault Refusal := runCommand cmdRelease s

/-- WRCFG (R222). -/
def execWrcfg (_now : Time) (value : Byte) (s : State) : Host.Outcome State Fault Refusal :=
  runCommand (cmdWriteConfig value) s

/-- RXB (R120). -/
def execRxb (now : Time) (byte : Byte) (s : State) : Host.Outcome State Fault Refusal := runEvent (rxByte byte now) s

/-- TMR (R196). -/
def execTmr (now : Time) (s : State) : Host.Outcome State Fault Refusal := runEvent (timerCheck now) s

/-- DSP (R201). -/
def execDsp (now : Time) (s : State) : Host.Outcome State Fault Refusal := runEvent (dispatchCheck now) s

end Sys2Proof.Machine
end

