-- ==== Sys2Proof/Machine/PacketForms.lean ====
section
/-! DEFINITION. The meanings of the packet forms: the reception of the packet's bytes at one `now` (RXPKT, R100; log 5).
Whatever phase the framer is in, the bytes go through it one by one; a complete, valid packet runs the packet step of the
current state (R128, R140). -/

namespace Sys2Proof.Machine

/-- SYN received (R88). -/
def execSyn (now : Time) (k : Byte) (s : State) : Host.Outcome State Fault Refusal :=
  .next (receive (headerBytes 0x80 0xFF k) now s)

/-- SYN+ACK received (R88). -/
def execSynack (now : Time) (an : Bool) (k : Byte) (s : State) : Host.Outcome State Fault Refusal :=
  .next (receive (headerBytes (mkCtl 0xC0 false an) 0xFF k) now s)

/-- Bare ACK received (R88). -/
def execAck (now : Time) (sn an : Bool) (k : Byte) (s : State) : Host.Outcome State Fault Refusal :=
  .next (receive (headerBytes (mkCtl 0x40 sn an) 0 k) now s)

/-- RST received (R88). -/
def execRst (now : Time) (sn : Bool) (k : Byte) (s : State) : Host.Outcome State Fault Refusal :=
  .next (receive (headerBytes (mkCtl 0x10 sn false) 0 k) now s)

/-- RST+ACK received (R88). -/
def execRstack (now : Time) (sn an : Bool) (k : Byte) (s : State) : Host.Outcome State Fault Refusal :=
  .next (receive (headerBytes (mkCtl 0x50 sn an) 0 k) now s)

/-- FIN+ACK received (R88). -/
def execFinack (now : Time) (sn an : Bool) (k : Byte) (s : State) : Host.Outcome State Fault Refusal :=
  .next (receive (headerBytes (mkCtl 0x60 sn an) 0 k) now s)

/-- A data packet of layout PC received (R87, R88): header, payload, CRC high byte first. -/
def execData (now : Time) (sn an eor : Bool) (k : Byte) (payload : List Byte) (crc : BitVec 16) (s : State) :
    Host.Outcome State Fault Refusal :=
  .next (receive (headerBytes (mkCtl 0x40 sn an ||| bitAt eor 1) (lenByte payload) k ++ payload ++ crcBytes crc) now s)

/-- A one-byte fragment in SO form received (R88). -/
def execData1 (now : Time) (sn an eor : Bool) (b k : Byte) (s : State) : Host.Outcome State Fault Refusal :=
  .next (receive (headerBytes (mkCtl 0x41 sn an ||| bitAt eor 1) b k) now s)

/-- A packet of layout P1 received (R87). -/
def execDatap1 (now : Time) (ackf sn an eor : Bool) (k b : Byte) (s : State) : Host.Outcome State Fault Refusal :=
  .next (receive (headerBytes (mkCtl (bitAt ackf 6) sn an ||| bitAt eor 1) 1 k ++ [b]) now s)

end Sys2Proof.Machine
end

