-- ==== Sys2Proof/Machine/Dispatch.lean ====
section
/-! DEFINITION. One arm for each instruction. -/

namespace Sys2Proof.Machine

def exec (i : Instr) (s : State) : Host.Outcome State Fault Refusal :=
  match i with
  | .syn now k => Sys2Proof.Machine.execSyn now k s
  | .synack now an k => Sys2Proof.Machine.execSynack now an k s
  | .ack now sn an k => Sys2Proof.Machine.execAck now sn an k s
  | .rst now sn k => Sys2Proof.Machine.execRst now sn k s
  | .rstack now sn an k => Sys2Proof.Machine.execRstack now sn an k s
  | .finack now sn an k => Sys2Proof.Machine.execFinack now sn an k s
  | .data now sn an eor k payload crc => Sys2Proof.Machine.execData now sn an eor k payload crc s
  | .data1 now sn an eor b k => Sys2Proof.Machine.execData1 now sn an eor b k s
  | .datap1 now ackf sn an eor k b => Sys2Proof.Machine.execDatap1 now ackf sn an eor k b s
  | .opena now => Sys2Proof.Machine.execOpena now s
  | .openp now => Sys2Proof.Machine.execOpenp now s
  | .txpush now eor tag bytes => Sys2Proof.Machine.execTxpush now eor tag bytes s
  | .rxpop now => Sys2Proof.Machine.execRxpop now s
  | .close now => Sys2Proof.Machine.execClose now s
  | .release now => Sys2Proof.Machine.execRelease now s
  | .wrcfg now value => Sys2Proof.Machine.execWrcfg now value s
  | .rxb now byte => Sys2Proof.Machine.execRxb now byte s
  | .tmr now => Sys2Proof.Machine.execTmr now s
  | .dsp now => Sys2Proof.Machine.execDsp now s

end Sys2Proof.Machine
end

