-- ==== Sys2Proof/Machine/Fetch.lean ====
section
/-! DEFINITION. Taking what the environment presents next (log 1). -/

namespace Sys2Proof.Machine

/-- What the environment presents next, and the state with it taken from the inbox. -/
def takeArrival (s : State) : Option (Arrival × State) :=
  match s.inbox with
  | [] => none
  | a :: rest => some (a, { s with inbox := rest })

/-- The environment presents `a` before everything else that waits. -/
def presentFirst (a : Arrival) (s : State) : State := { s with inbox := a :: s.inbox }

/-- What happens to an arrival that is no instruction of the table: a reserved event code is answered (R97); a packet of
no row goes through the framer like any other bytes (R89, R100); bytes that are no event record are refused (log 8). An
operation presented as it is always decodes. -/
def runUndecoded (a : Arrival) (e : DecodeError) (s : State) : Host.Outcome State Fault Refusal :=
  match a with
  | .packet now bytes => .next (receive bytes now s)
  | .record issuer _ =>
    match e with
    | .reservedCode _ => .next (event (reservedEvent issuer) s)
    | _ => .refused .malformedRecord
  | .event i => exec i s

end Sys2Proof.Machine
end

