-- ==== Sys2Proof/Machine/Step.lean ====
section
/-! DEFINITION. One step: the environment's next arrival is taken, decoded and run. With nothing presented nothing
happens (70_reset_and_hazards.md R280; log 1). -/

namespace Sys2Proof.Machine

/-- One step of the block. -/
def step (s : State) : Host.Outcome State Fault Refusal :=
  match takeArrival s with
  | none => .next s
  | some (a, t) =>
    match decodeArrival a with
    | .ok i => exec i t
    | .error e => runUndecoded a e t

/-- `s` with an instruction of the opcode table presented next (log 1, log 14). -/
def State.withFetchWord (s : State) (nbits w : Nat) : State := presentFirst (tableArrival nbits w) s

end Sys2Proof.Machine
end

