-- ==== Sys2Proof/Machine/Outputs.lean ====
section
/-! DEFINITION. The outputs of the block as the three streams of 10_state.md R44. -/

namespace Sys2Proof.Machine

/-- The transmit stream: the packets handed to the transport, in order. -/
def txStream (outs : List Output) : List (List Byte) :=
  match outs with
  | [] => []
  | .tx p :: rest => p :: txStream rest
  | .complete _ _ :: rest => txStream rest
  | .respond _ _ :: rest => txStream rest

/-- The completion stream. -/
def completions (outs : List Output) : List (Tag × Code) :=
  match outs with
  | [] => []
  | .tx _ :: rest => completions rest
  | .complete t c :: rest => (t, c) :: completions rest
  | .respond _ _ :: rest => completions rest

/-- The command responses. -/
def responses (outs : List Output) : List (Code × Option RxEntry) :=
  match outs with
  | [] => []
  | .tx _ :: rest => responses rest
  | .complete _ _ :: rest => responses rest
  | .respond c e :: rest => (c, e) :: responses rest

end Sys2Proof.Machine
end

