-- ==== Sys2Proof/Machine/Driver.lean ====
section
/-! DEFINITION. The driver layer (43_host_commands.md part 2): the source's `send`, `recv`, `poll`, `establish`, `close`
as functions over the block's events, with the driver's map from tags to callbacks. It is software around the block and
no part of `step` (R5; log 12). What the transport and the clock answer is an argument; a loop ends, undecided, when the
argument runs out.

DESIGN CHOICE (log 7): the driver issues a command with `event`, without the test for `busy = 1` that `exec` makes. R288
gives a command at `busy = 1` no behaviour, and every event leaves `busy = 0` (R35), so the driver never meets one between
its own events; called on a state with `busy = 1`, `poll` returns at once (R232) and every other function here runs its
commands as if `busy` were 0. -/

namespace Sys2Proof.Machine

/-! ## Procedures over the block -/

/-- What the transport and the clock answer during one `poll`: the start of the receive attempt, the answers of
`recv_byte` with the time of each, and the times of TMR, of DSP and of the end (R232, R237). -/
structure PollInput where
  start : Time
  answers : List (Time × Option Byte)
  timerAt : Time
  dispatchAt : Time
  finish : Time
  deriving DecidableEq, Repr

/-- The code and payload of the latest response. -/
def lastResponse (s : State) : Code × Option RxEntry :=
  match s.outs.getLast? with
  | some (.respond code payload) => (code, payload)
  | some (.tx _) => (.ok, none)
  | some (.complete _ _) => (.ok, none)
  | none => (.ok, none)

/-- Whether the byte at `now` that took the block from `s` to `t` ended a packet, valid or discarded (R232): a packet was
being received, and the framer is back in HUNT or the byte came too late for that packet, which is a discard too even
where the byte is the marker of a new one (R120, R129, R130 (1); log 12). -/
def packetEnded (now : Time) (s t : State) : Bool :=
  s.opened && s.rxPhase != .hunt && (t.rxPhase == .hunt || decide (s.cfg.tByte.toNat ≤ since s s.rxTs now))

/-- The one receive attempt of `poll` (R232). -/
def receiveAttempt (start : Time) (answers : List (Time × Option Byte)) (s : State) : State :=
  match answers with
  | [] => s
  | (t, some b) :: rest =>
    let s1 := event (rxByte b t) s
    if packetEnded t s s1 then s1 else receiveAttempt start rest s1
  | (t, none) :: rest =>
    if s.rxPhase = .hunt ∨ s.cfg.tPollRx.toNat ≤ since s start t then s else receiveAttempt start rest s

/-- `poll()` (R232). -/
def poll (inp : PollInput) (s : State) : Code × State :=
  if isBusy s then (.ok, s)
  else
    let s1 := receiveAttempt inp.start inp.answers s
    let s2 := event (dispatchCheck inp.dispatchAt) (event (timerCheck inp.timerAt) s1)
    (if isClosed s2 then s2.status else .ok, s2)

/-- The RXPOPs of `recv`, up to and including the first fragment with `eor` (R231); `fuel` bounds their number. -/
def popMessage (fuel : Nat) (s : State) : List Byte × State :=
  match fuel with
  | 0 => ([], s)
  | n + 1 =>
    let s1 := event cmdPop s
    match (lastResponse s1).2 with
    | none => ([], s1)
    | some e =>
      if e.eor then (e.bytes, s1)
      else
        let r := popMessage n s1
        (e.bytes ++ r.1, r.2)

/-- `recv()` (R231). -/
def recv (s : State) : Code × List Byte × State :=
  if !rxReady s then (.wouldBlock, [], s)
  else
    let r := popMessage s.rxq.length s
    (.ok, r.1, r.2)

/-- The polling loop of `establish` (R233); `none` while undecided. -/
def establishLoop (timeout : Nat) (t0 : Time) (env : List PollInput) (s : State) : Option Code × State :=
  match env with
  | [] => (none, s)
  | inp :: rest =>
    let s1 := (poll inp s).2
    if established s1 then (some .ok, s1)
    else if isClosed s1 then (some s1.status, event cmdRelease s1)
    else if timeout ≠ 0 ∧ timeout ≤ since s1 t0 inp.finish then (some .timeout, event cmdRelease s1)
    else establishLoop timeout t0 rest s1

/-- `establish(active, timeout)`, opened at `openAt`, its clock started at `t0` (R233). -/
def establish (active : Bool) (timeout : Nat) (openAt t0 : Time) (env : List PollInput) (s : State) :
    Option Code × State :=
  let s1 := event (if active then cmdOpenActive openAt else cmdOpenPassive) s
  if (lastResponse s1).1 = .ok then establishLoop timeout t0 env s1 else (some (lastResponse s1).1, s1)

/-- The polling loop of `close`, bounded by `T_CLOSE` (R234, 90_conflicts.md C10). -/
def closeLoop (tClose : Nat) (t0 : Time) (env : List PollInput) (s : State) : State :=
  match env with
  | [] => s
  | inp :: rest =>
    let s1 := (poll inp s).2
    if isClosed s1 ∨ tClose ≤ since s1 t0 inp.finish then s1 else closeLoop tClose t0 rest s1

/-- `close()`: CLOSE at `closeAt`, its clock started at `t0` (R234). -/
def closeConnection (tClose : Nat) (closeAt t0 : Time) (env : List PollInput) (s : State) : State :=
  event cmdRelease (if established s then closeLoop tClose t0 env (event (cmdClose closeAt) s) else s)

/-! ## The driver: callbacks and messages -/

/-- A completion callback with its context, by a number of the driver's user. The model does not look inside (R236). -/
abbrev Callback := Nat

/-- The driver with its block. -/
structure Driver where
  block : State
  /-- The map from tags to callbacks (R236): the tags of fragments not completed yet, oldest first, each with the callback
  that hangs on it, if one does (R230). -/
  callbacks : List (Tag × Option Callback)
  /-- How much of the completion stream the driver has taken. -/
  seen : Nat
  /-- The callbacks invoked so far, in order, each with its code. -/
  invoked : List (Callback × Code)
  /-- Where the search for a fresh tag starts (log 12). -/
  nextTag : Tag
  deriving DecidableEq, Repr

/-- A callback, if there is one, is invoked with `code`. -/
def invoke (cb : Option Callback) (code : Code) (d : Driver) : Driver :=
  match cb with
  | none => d
  | some c => { d with invoked := d.invoked ++ [(c, code)] }

/-- The completion stream delivers `(tag, code)`: the callback of the tag is invoked and the tag forgotten (R236). -/
def takeCompletion (d : Driver) (completion : Tag × Code) : Driver :=
  match d.callbacks.find? (·.1 == completion.1) with
  | none => d
  | some e =>
    invoke e.2 completion.2 { d with callbacks := d.callbacks.eraseP (·.1 == completion.1) }

/-- The driver takes every completion it has not taken yet, in the order of the stream (R236). -/
def catchUp (d : Driver) : Driver :=
  ((completions d.block.outs).drop d.seen).foldl takeCompletion { d with seen := (completions d.block.outs).length }

/-- A procedure over the block, after which the driver takes the new completions. -/
def onBlock {α : Type} (f : State → α × State) (d : Driver) : α × Driver :=
  let r := f d.block
  (r.1, catchUp { d with block := r.2 })

/-- The first tag from `t` on that no fragment waits under; `fuel` bounds the search. -/
def freshFrom (fuel : Nat) (t : Tag) (d : Driver) : Tag :=
  match fuel with
  | 0 => t
  | n + 1 => if d.callbacks.any (·.1 == t) then freshFrom n (tagBits d.block (t + 1)) d else t

/-- A fresh tag (R230, R236): one that no fragment not yet completed has, as long as there is one. -/
def freshTag (d : Driver) : Tag := freshFrom d.callbacks.length (tagBits d.block d.nextTag) d

/-- The driver remembers a tag with its callback (R230, R236). -/
def remember (tag : Tag) (cb : Option Callback) (d : Driver) : Driver :=
  { d with callbacks := d.callbacks ++ [(tag, cb)], nextTag := tag + 1 }

/-- Fragments of at most 255 bytes, the last marked; `fuel` bounds their number. -/
def chunksUpTo (fuel : Nat) (bytes : List Byte) : List (List Byte × Bool) :=
  match fuel with
  | 0 => []
  | n + 1 =>
    if bytes.length = 0 then []
    else if bytes.length ≤ mdl then [(bytes, true)]
    else (bytes.take mdl, false) :: chunksUpTo n (bytes.drop mdl)

/-- The fragments of a message (R230). -/
def chunks (bytes : List Byte) : List (List Byte × Bool) := chunksUpTo bytes.length bytes

/-- `poll()` of the driver. -/
def driverPoll (inp : PollInput) (d : Driver) : Code × Driver := onBlock (poll inp) d

/-- One TXPUSH of `send`, repeated after a `poll` while the answer is WouldBlock (R230). -/
def pushWithRetry (chunk : List Byte) (last : Bool) (tag : Tag) (env : List PollInput) (d : Driver) :
    Code × List PollInput × Driver :=
  let r := onBlock (fun s => let s1 := event (cmdPush chunk last tag) s; ((lastResponse s1).1, s1)) d
  match r.1, env with
  | .wouldBlock, inp :: rest => pushWithRetry chunk last tag rest (driverPoll inp r.2).2
  | code, _ => (code, env, r.2)

/-- The pushes of `send`: each fragment under a fresh tag, the callback on the last one (R230). As the rule has it, a tag is
remembered before its TXPUSH and stays remembered if that is refused. -/
def sendChunks (l : List (List Byte × Bool)) (cb : Option Callback) (env : List PollInput) (d : Driver) :
    Code × Driver :=
  match l with
  | [] => (.ok, d)
  | (chunk, last) :: rest =>
    let tag := freshTag d
    match pushWithRetry chunk last tag env (remember tag (if last then cb else none) d) with
    | (.ok, env1, d1) => sendChunks rest cb env1 d1
    | (code, _, d1) => (code, d1)

/-- `send(data, on_complete)` (R230): the empty message sends nothing and invokes the callback with OK at once. -/
def send (bytes : List Byte) (cb : Option Callback) (env : List PollInput) (d : Driver) : Code × Driver :=
  if !established d.block then (.networkDown, d)
  else if bytes.length = 0 then (.ok, invoke cb .ok d)
  else sendChunks (chunks bytes) cb env d

/-- `recv()` of the driver. -/
def driverRecv (d : Driver) : (Code × List Byte) × Driver :=
  onBlock (fun s => let r := recv s; ((r.1, r.2.1), r.2.2)) d

/-- `establish(active, timeout)` of the driver. -/
def driverEstablish (active : Bool) (timeout : Nat) (openAt t0 : Time) (env : List PollInput) (d : Driver) :
    Option Code × Driver :=
  onBlock (establish active timeout openAt t0 env) d

/-- `close()` of the driver; the completions of RELEASE invoke what callbacks are left (R234, R236). -/
def driverClose (tClose : Nat) (closeAt t0 : Time) (env : List PollInput) (d : Driver) : Driver :=
  (onBlock (fun s => ((), closeConnection tClose closeAt t0 env s)) d).2

end Sys2Proof.Machine
end

