-- ==== Sys2Proof/Safety.lean ====
section
/-! DEFINITION. What counts as a safe state and a safe output, in the terms the claims use: the invariants of 10_state.md
R40 and R41, and the packets of 30_encoding.md R88. -/

namespace Sys2Proof.Machine

/-- A packet the block may emit (R88, R131): a header with a valid checksum, of one of the eight transmitted forms, with
nothing after it, or, for the DATA form, with as many payload bytes as `data_length` says and their CRC. -/
def WirePacket (sel : CrcSel) (p : List Byte) : Prop :=
  ∃ c l k rest, p = synch :: c :: l :: k :: rest ∧ headerOk c l k = true ∧
    match formOf c l with
    | none => False
    | some .datap1 => False
    | some .data => ∃ payload : List Byte, payload.length = l.toNat ∧ rest = payload ++ crcBytes (crc16 sel payload)
    | some .syn | some .synack | some .ack | some .rst | some .rstack | some .finack | some .data1 => rest = []

/-- The states from which a connection can hold queued outbound data: ESTABLISHED and what can follow it (R41 (v)). -/
def afterEstablished (c : ConnState) : Bool :=
  match c with
  | .listen => false
  | .synSent => false
  | .synReceived => false
  | .established => true
  | .finWait => true
  | .lastAck => true
  | .closing => true
  | .timeWait => true
  | .closed => true

/-- A fragment holds 1 to 255 bytes (R32, R33, R41 (vi)). -/
def FragmentSize (bytes : List Byte) : Prop := 1 ≤ bytes.length ∧ bytes.length ≤ mdl

/-- A queue holds no more entries than its depth allows (R32, R33). -/
def WithinDepth (depth : Option Nat) (entries : Nat) : Prop :=
  match depth with
  | none => True
  | some d => entries ≤ d

/-- The framer's registers fit its phase (R34, R125): while payload is awaited the header announces it and fewer bytes than
announced have arrived; while a CRC is awaited all have arrived. -/
def FramerFits (s : State) : Prop :=
  match s.rxPhase with
  | .hunt | .ctl | .len | .cks => True
  | .pay => ctlSo s.rxCtl = false ∧ hasData s.rxCtl s.rxLen = true ∧ s.rxCnt.toNat < s.rxLen.toNat
  | .crch | .crcl => ctlSo s.rxCtl = false ∧ hasData s.rxCtl s.rxLen = true ∧ 2 ≤ s.rxLen.toNat

/-- `s` with every register of R45 at its reset value, `max_retries` excepted; the registers that R45 calls unspecified are
as in `t`. -/
def resetValues (s t : State) : State :=
  { resetTcb s with
    rtxBuf := t.rtxBuf, rtxTs := t.rtxTs, twTs := t.twTs, curTag := t.curTag, rxCtl := t.rxCtl, rxLen := t.rxLen
    rxPay := t.rxPay, rxCnt := t.rxCnt, rxCrcHi := t.rxCrcHi, rxTs := t.rxTs }

/-- The invariants of R40 and R41, with the forms that make them inductive. -/
structure Inv (s : State) : Prop where
  /-- No event is in progress between events (R35). -/
  idle : s.busy = false
  /-- R21, R41 (iv): without a connection record every register but `max_retries` holds the reset value that
  R45 gives it. -/
  closedIsReset : s.opened = false → s = resetValues s s
  /-- R41 (iii). -/
  statusIffClosed : s.status ≠ .ok ↔ s.opened = true ∧ s.conn = .closed
  /-- R256: only the three fatal codes are stored. -/
  statusIsFatal : s.status = .ok ∨ s.status = .connectionRefused ∨ s.status = .connectionReset ∨ s.status = .timeout
  /-- R41 (i), and a fragment is outstanding in ESTABLISHED only. -/
  outstandingInSlot : s.curValid = true → s.rtxValid = true ∧ s.conn = .established
  /-- R41 (i): while a fragment is outstanding the slot holds a data packet that Dispatch built from it (R115, R200), with
  the SN that `sn_sent` still has. The fragment's bytes and EOR are held nowhere else (R31). -/
  outstandingIsBuilt :
    s.curValid = true →
      ∃ an eor bytes, FragmentSize bytes ∧ slotPacket s = buildData s.cfg.crc s.snSent an eor bytes
  /-- R41 (ii). -/
  establishedSlot : s.conn = .established → s.rtxValid = s.curValid
  /-- R41 (viii). -/
  timeWaitSlot : s.conn = .timeWait → s.rtxValid = false
  /-- R41 (ix). -/
  closedSlot : s.conn = .closed → s.rtxValid = false ∧ s.curValid = false
  /-- R27, R131: the slot holds a whole packet of a transmitted form. -/
  slotIsPacket : s.rtxValid = true → WirePacket s.cfg.crc (slotPacket s)
  /-- R41 (v). -/
  queuedAfterEstablished : s.txq ≠ [] → afterEstablished s.conn = true
  /-- R41 (vi). -/
  txSizes : ∀ e ∈ s.txq, FragmentSize e.bytes
  /-- R41 (vi). -/
  rxSizes : ∀ e ∈ s.rxq, FragmentSize e.bytes
  /-- R32. -/
  txDepth : WithinDepth s.cfg.txqDepth s.txq.length
  /-- R33. -/
  rxDepth : WithinDepth s.cfg.rxqDepth s.rxq.length
  /-- R29, R194: `rto` is the function of `srtt` that the estimator computes. -/
  rtoFromSrtt : s.rto = rtoOf s.srtt
  /-- R27, R30, R34: every stamp has `TIME_W` bits. -/
  stampsFit : s.rtxTs < 2 ^ s.cfg.timeW ∧ s.twTs < 2 ^ s.cfg.timeW ∧ s.rxTs < 2 ^ s.cfg.timeW
  /-- R31, R32: every tag has `TAG_W` bits. -/
  tagsFit : s.curTag < 2 ^ s.cfg.tagW ∧ ∀ e ∈ s.txq, e.tag < 2 ^ s.cfg.tagW
  /-- R34, R125. -/
  framer : FramerFits s
  /-- R27, R60: `rtx_buf` in canonical form, inside its 261 bytes. -/
  rtxBufForm : s.rtxBuf.wf rtxBufSize = true
  /-- R34, R60: `rx_pay` in canonical form, inside its 255 bytes. -/
  rxPayForm : s.rxPay.wf rxPaySize = true

/-! ## Fragments and their completions -/

/-- The tags of the fragments that still wait for their completion, in the order of their TXPUSH: the outstanding one, then
the queue (R260). -/
def pendingTags (s : State) : List Tag := (if s.curValid then [s.curTag] else []) ++ s.txq.map (·.tag)

/-- The tags completed so far, in order. -/
def completedTags (s : State) : List Tag := (completions s.outs).map (·.1)

end Sys2Proof.Machine
end

