-- ==== Sys2Proof/Certificates/Slice0/Obligations.lean ====
section
/-! DEFINITION. The statements for the provers, and the vocabulary they use. -/

open Sys2Proof Sys2Proof.Machine

namespace Sys2Proof.Spec

/-! ## Vocabulary -/

/-- The `match` of a packet row of spec/opcode_table.json (R101). -/
def rowMatch (f : Form) : BitVec 32 :=
  match f with
  | .syn => 0x0180FF00
  | .synack => 0x01C0FF00
  | .ack => 0x01400000
  | .rst => 0x01100000
  | .rstack => 0x01500000
  | .finack => 0x01600000
  | .data => 0x01400000
  | .data1 => 0x01410000
  | .datap1 => 0x01000100

/-- The `mask` of a packet row of spec/opcode_table.json (R101). -/
def rowMask (f : Form) : BitVec 32 :=
  match f with
  | .syn => 0xFFFFFF00
  | .synack => 0xFFFBFF00
  | .ack => 0xFFF3FF00
  | .rst => 0xFFF7FF00
  | .rstack => 0xFFF3FF00
  | .finack => 0xFFF3FF00
  | .data => 0xFFF10000
  | .data1 => 0xFFF10000
  | .datap1 => 0xFFB1FF00

/-- The header word `synch << 24 | control << 16 | data_length << 8 | header_checksum` (R81). -/
def headerWord (c l k : Byte) : BitVec 32 := join32 synch c l k

/-- A connection record exists, the framer hunts, and the inter-byte timeout is not zero: a packet that now arrives whole,
at one `now`, is read from its first byte to its last. -/
def HuntReady (s : State) : Prop := s.opened = true ∧ s.rxPhase = .hunt ∧ s.cfg.tByte ≠ 0

/-- `now` in `TIME_W` bits: the value that an event at `now` works with and stores in stamps (R43). -/
def stamp (s : State) (now : Time) : Time := now % 2 ^ s.cfg.timeW

/-- The framer's registers after the four header bytes of a packet, back in HUNT (R122 to R124). -/
def afterHeader (c l : Byte) (now : Time) (s : State) : State := { s with rxCtl := c, rxLen := l, rxTs := stamp s now }

/-- What the reception of a whole packet `p` answers: the packet step of R140 as one event, after the header. -/
def steps (p : Pkt) (now : Time) (s : State) : Host.Outcome State Fault Refusal :=
  .next (event (packetStep p (stamp s now)) (afterHeader p.ctl p.len now s))

/-- What a packet whose header checksum fails answers when nothing follows the header. -/
def discards (c l : Byte) (now : Time) (s : State) : Host.Outcome State Fault Refusal :=
  .next { afterHeader c l now s with busy := false }

/-- `exec` of a list of instructions, one after the other. -/
def execAll (l : List Instr) (s : State) : Host.Outcome State Fault Refusal :=
  match l with
  | [] => .next s
  | i :: rest =>
    match exec i s with
    | .next t => execAll rest t
    | .fault f => .fault f
    | .refused r => .refused r

/-- The bare ACK that answers a packet: `<SN=received AN><AN=received SN + 1><CTL=ACK>` (R143). -/
def ackPacket (p : Pkt) : List Byte := makeHeader (mkCtl 0x40 (pktAck p && pktAn p) (!pktSn p)) 0

/-- The reset that answers a packet: `<SN=received AN><CTL=RST>` (R143). -/
def rstPacket (p : Pkt) : List Byte := makeHeader (mkCtl 0x10 (pktAck p && pktAn p) false) 0

/-- The SYN+ACK that answers a SYN: `<SN=0><AN=received SN + 1><CTL=SYN,ACK><LEN=255>` (R144). -/
def synackPacket (p : Pkt) : List Byte := makeHeader (mkCtl 0xC0 false (!pktSn p)) 0xFF

/-- `s` after `q` has been emitted and put into the retransmit slot, with nothing outstanding before (R191). -/
def sent (q : List Byte) (now : Time) (s : State) : State :=
  { s with
    outs := s.outs ++ [.tx q], rtxBuf := s.rtxBuf.writeBytes 0 q, rtxLen := q.length, rtxTs := now, retry := 0, rtxValid := true }

/-- `s` after `q` has been emitted (R131). -/
def emitted (q : List Byte) (s : State) : State := { s with outs := s.outs ++ [.tx q] }

/-- The completion of the outstanding fragment, if there is one. -/
def completion (s : State) (code : Code) : List Output := if s.curValid then [.complete s.curTag code] else []

/-- `s` in ESTABLISHED after the acknowledgment part of a packet: AckAccepted when the AN is the expected one (R153). -/
def afterAck (p : Pkt) (now : Time) (s : State) : State := if pktAn p == !s.snSent then ackAccepted now s else s

/-- The packet rows of the transition table R172, in its order: the next `state`, and the code stored when it is CLOSED. -/
def tableNext (s : State) (p : Pkt) : ConnState × Code :=
  let snOk := pktSn p == !s.snReceived
  let anOk := pktAn p == !s.snSent
  let rst := pktRst p
  let syn := pktSyn p
  let ack := pktAck p
  let fin := pktFin p
  match s.conn with
  | .listen => if !rst && !ack && syn then (.synReceived, s.status) else (.listen, s.status)
  | .synSent =>
    if !(ack && !anOk) && rst then (.closed, .connectionRefused)
    else if syn && ack && anOk && !rst then (.established, s.status)
    else if syn && !ack && !rst then (.synReceived, s.status)
    else (.synSent, s.status)
  | .synReceived =>
    if snOk && rst && !s.active then (.listen, s.status)
    else if snOk && rst && s.active then (.closed, .connectionRefused)
    else if snOk && !rst && syn then (.closed, .connectionReset)
    else if snOk && !rst && !syn && ack && !anOk && !s.active then (.listen, s.status)
    else if snOk && !rst && !syn && ack && !anOk && s.active then (.closed, .connectionRefused)
    else if snOk && !rst && !syn && ack && anOk then (.established, s.status)
    else (.synReceived, s.status)
  | .established =>
    if !snOk && !rst && !fin && syn then (.closed, .connectionReset)
    else if snOk && rst then (.closed, .connectionReset)
    else if snOk && !rst && syn then (.closed, .connectionReset)
    else if snOk && !rst && !syn && ack && fin then (.lastAck, s.status)
    else (.established, s.status)
  | .finWait =>
    if !snOk && !rst && !fin && syn then (.closed, .connectionReset)
    else if snOk && rst then (.closed, .connectionReset)
    else if snOk && !rst && syn then (.closed, .connectionReset)
    else if snOk && !rst && !syn && ack && fin && pktHasData p then (.closed, .connectionReset)
    else if snOk && !rst && !syn && ack && fin && !pktHasData p && anOk then (.timeWait, s.status)
    else if snOk && !rst && !syn && ack && fin && !pktHasData p && !anOk then (.closing, s.status)
    else (.finWait, s.status)
  | .lastAck =>
    if !snOk && !rst && !fin && syn then (.closed, .connectionReset)
    else if snOk && rst then (.closed, .connectionReset)
    else if snOk && !rst && syn then (.closed, .connectionReset)
    else if snOk && !rst && !syn && ack && anOk then (.closed, .connectionReset)
    else (.lastAck, s.status)
  | .closing =>
    if !snOk && !rst && !fin && syn then (.closed, .connectionReset)
    else if snOk && rst then (.closed, .connectionReset)
    else if snOk && !rst && syn then (.closed, .connectionReset)
    else if snOk && !rst && !syn && ack && anOk then (.timeWait, s.status)
    else (.closing, s.status)
  | .timeWait =>
    if rst then (.closed, .connectionReset)
    else if !rst && syn then (.closed, .connectionReset)
    else (.timeWait, s.status)
  | .closed => (.closed, s.status)

/-- The tag that an instruction adds to the fragments waiting for their completion: that of an accepted TXPUSH (R218). -/
def pushedTag (i : Instr) (s : State) : List Tag :=
  match i with
  | .txpush _ _ tag bytes =>
    if established s && decide (1 ≤ bytes.length) && decide (bytes.length ≤ 255) && !txFull s then
      [tag % 2 ^ s.cfg.tagW]
    else []
  | _ => []

/-- The response of a host command by the table of R225. -/
def tableAnswer (i : Instr) (s : State) : Option Code :=
  match i with
  | .opena _ | .openp _ => some (if s.opened then .refused else .ok)
  | .txpush _ _ _ bytes =>
    some
      (if !(s.opened && s.conn == .established) then .networkDown
      else if bytes.length = 0 ∨ 255 < bytes.length then .refused
      else if txFull s then .wouldBlock
      else .ok)
  | .rxpop _ => some (if s.rxq.isEmpty then .wouldBlock else .ok)
  | .close _ | .release _ | .wrcfg _ _ => some .ok
  | _ => none

/-- A host command that never emits a packet (R215). -/
def silentCommand (i : Instr) : Bool :=
  match i with
  | .openp _ | .txpush _ _ _ _ | .rxpop _ | .release _ | .wrcfg _ _ => true
  | _ => false

/-- A host command that never emits a completion (R215). -/
def uncompletingCommand (i : Instr) : Bool :=
  match i with
  | .opena _ | .openp _ | .txpush _ _ _ _ | .rxpop _ | .wrcfg _ _ => true
  | _ => false

/-- An instruction that can bring bytes from the channel: a packet form or RXB. -/
def fromChannel (i : Instr) : Bool :=
  match i with
  | .syn _ _ | .synack _ _ _ | .ack _ _ _ _ | .rst _ _ _ | .rstack _ _ _ _ | .finack _ _ _ _ | .data _ _ _ _ _ _ _
  | .data1 _ _ _ _ _ _ | .datap1 _ _ _ _ _ _ _ | .rxb _ _ => true
  | _ => false

/-- RELEASE. -/
def isRelease (i : Instr) : Bool :=
  match i with
  | .release _ => true
  | _ => false

/-- WRCFG. -/
def isWrcfg (i : Instr) : Bool :=
  match i with
  | .wrcfg _ _ => true
  | _ => false

end Sys2Proof.Spec

open Sys2Proof.Spec

/-! ## Encoding -/

/-- Decoding what the encoder writes gives the instruction back: for every well-formed instruction of every row, with every
operand at every value its encoding admits (R88, R98, R101). -/
def Obligations.DecodeOfEncodeIsTheInstruction : Prop :=
  ∀ i : Instr, i.WellFormed → decodeArrival (encode i) = .ok i

/-- The row the decoder gives a header is the row whose `match` and `mask` in the opcode table its header word satisfies,
with the constraint of the DATA row (R101); the checksum plays no part. -/
def Obligations.HeaderRowsFollowMatchAndMask : Prop :=
  ∀ (c l k : Byte) (f : Form),
    formOf c l = some f ↔ (headerWord c l k &&& rowMask f = rowMatch f ∧ (f = .data → 2 ≤ l.toNat))

/-- A few words written out from the encodings decode to the instructions they stand for (R88, R98; the packets and records
of 95_test_vectors.md T1, T12, P1). -/
def Obligations.WrittenOutWordsDecode : Prop :=
  decodeTableWord 32 0x0180FF80 = some (.syn 0 0x80) ∧
  decodeTableWord 32 0x01C4FF3C = some (.synack 0 true 0x3C) ∧
  decodeTableWord 32 0x014800B7 = some (.ack 0 true false 0xB7) ∧
  decodeTableWord 32 0x014F416F = some (.data1 0 true true true 0x41 0x6F) ∧
  decodeArrival (.packet 5 [0x01, 0x4E, 0x03, 0xAE, 0x61, 0x62, 0x63, 0x9D, 0xD6]) =
    .ok (.data 5 true true true 0xAE [0x61, 0x62, 0x63] 0x9DD6) ∧
  decodeArrival (.record .host [0x03, 0x00, 0x00, 0x04, 0x15, 0x01, 0x00, 0x07, 0x01, 0x41]) =
    .ok (.txpush 1045 true 7 [0x41]) ∧
  decodeArrival (.record .engine [0x0A, 0x00, 0x00, 0x04, 0x1A]) = .ok (.dsp 1050)

/-- R97: an event record is of a reserved code exactly when its code is 0x0 or 0xB to 0xF; a step that takes such an event
changes nothing and answers Refused if the host issued it, nothing otherwise. How a record is presented, and that its bytes
after `now` play no part, is the model's own (log 1, log 8). -/
def Obligations.ReservedCodesAreAnsweredRefused : Prop :=
  (∀ (b t3 t2 t1 t0 : Byte) (rest : List Byte), b.toNat < 16 →
    ((∃ n, decodeRecord (b :: t3 :: t2 :: t1 :: t0 :: rest) = .error (.reservedCode n)) ↔ (b = 0 ∨ 0xB ≤ b.toNat))) ∧
  (∀ (s : State) (who : Issuer) (bytes : List Byte) (more : List Arrival) (n : Nat),
    s.inbox = .record who bytes :: more → s.busy = false → decodeRecord bytes = .error (.reservedCode n) →
    step s =
      .next { s with inbox := more, outs := s.outs ++ if who = .host then [.respond .refused none] else [] })

/-- A step takes the next arrival from the inbox and, when it decodes to an instruction, runs exactly that instruction; with
nothing presented it leaves the state as it is. How a program is presented is the model's own (log 1). -/
def Obligations.StepRunsTheDecodedInstruction : Prop :=
  (∀ (s : State) (a : Arrival) (more : List Arrival) (i : Instr),
    s.inbox = a :: more → decodeArrival a = .ok i → step s = exec i { s with inbox := more }) ∧
  (∀ s : State, s.inbox = [] → step s = .next s)

/-- R100: the reception of a packet form is the RXB events of its bytes at one `now`; that a packet row stands for the
reception is the model's choice (log 5). -/
def Obligations.PacketFormIsTheRxbsOfItsBytes : Prop :=
  ∀ (i : Instr) (now : Time) (bytes : List Byte) (s : State),
    encode i = .packet now bytes → exec i s = execAll (bytes.map (.rxb now)) s

/-- R89: no control byte is illegal. Whatever header of layout H (R87) with a valid checksum arrives, of a row of the table
or of none, a step runs the packet step on it. The presentation by `inbox` is the model's own (log 1), and so is that a
packet of no row runs as its bytes (log 5). -/
def Obligations.EveryHeaderOnlyPacketReachesThePacketStep : Prop :=
  ∀ (s : State) (now : Time) (c l k : Byte) (more : List Arrival),
    s.inbox = .packet now [synch, c, l, k] :: more → HuntReady s → headerOk c l k = true → follow c l = (0, 0) →
    step s = steps ⟨c, l, payloadOf c l []⟩ now { s with inbox := more }

/-- R89, R125 to R127: the same for a header of the layouts PC and P1 (R87), whatever its control byte: a step runs the packet
step on the payload, or drops the packet where layout PC's CRC does not match. Its payload stands in `rx_pay` afterwards.
The presentation by `inbox` is the model's own (log 1), and so is that a packet of no row runs as its bytes (log 5). -/
def Obligations.EveryPayloadPacketReachesThePacketStep : Prop :=
  ∀ (s : State) (now : Time) (c l k : Byte) (more : List Arrival),
    HuntReady s → s.rxPay.wf rxPaySize = true → headerOk c l k = true →
    (∀ (payload : List Byte) (crc : BitVec 16),
      s.inbox = .packet now ([synch, c, l, k] ++ payload ++ [hi16 crc, lo16 crc]) :: more →
      follow c l = (payload.length, 2) →
      let t := { s with inbox := more, rxPay := s.rxPay.writeBytes 0 payload, rxCnt := l, rxCrcHi := hi16 crc }
      step s = if crc = crc16 s.cfg.crc payload then steps ⟨c, l, payload⟩ now t else discards c l now t) ∧
    (∀ b : Byte, s.inbox = .packet now [synch, c, l, k, b] :: more → follow c l = (1, 0) →
      step s = steps ⟨c, l, [b]⟩ now { s with inbox := more, rxPay := s.rxPay.write 0 b, rxCnt := 1 })

/-! ## Codec -/

/-- R84: the header checksum, as numbers: what `make_header` writes, what the receiver accepts, and that the two agree. -/
def Obligations.HeaderChecksumIsTheOneThatValidates : Prop :=
  ∀ c l k : Byte,
    makeHeader c l = [0x01, c, l, BitVec.ofNat 8 ((c.toNat + l.toNat) % 256) ^^^ 0xFF] ∧
    (headerOk c l k = true ↔ (c.toNat + l.toNat + k.toNat) % 256 = 0xFF) ∧
    (headerOk c l k = true ↔ makeHeader c l = [0x01, c, l, k])

/-- R112 (2): a valid header with one bit flipped in its control, length or checksum byte does not validate. -/
def Obligations.SingleBitFlipsAreDetected : Prop :=
  ∀ (c l k : Byte) (i : Nat), i < 8 → headerOk c l k = true →
    headerOk (c ^^^ (1#8 <<< i)) l k = false ∧ headerOk c (l ^^^ (1#8 <<< i)) k = false ∧
    headerOk c l (k ^^^ (1#8 <<< i)) = false

/-- R118: a packet has data exactly when its logical payload is not empty, and the payload holds at most 255 bytes. -/
def Obligations.HasDataIffPayload : Prop :=
  ∀ (c l : Byte) (pay : List Byte), pay.length = l.toNat →
    (hasData c l = true ↔ payloadOf c l pay ≠ []) ∧ (payloadOf c l pay).length ≤ 255

/-- R87, R92, R115: a data packet built from a fragment of 1 to 255 bytes is 4 bytes for one byte and the length plus 6
otherwise, never 5 and at most 261; its header validates, announces exactly the bytes that follow it, has data, and is a
packet that the slot takes (R190); its payload as a receiver reads it is the fragment, followed by its CRC. -/
def Obligations.BuiltDataPacketsFrameThemselves : Prop :=
  ∀ (sel : CrcSel) (sn an eor : Bool) (bytes : List Byte), FragmentSize bytes →
    let p := buildData sel sn an eor bytes
    p.length = (if bytes.length = 1 then 4 else bytes.length + 6) ∧ p.length ≤ 261 ∧
    WirePacket sel p ∧ retransmittable p = true ∧
    ∃ c l k rest, p = 0x01 :: c :: l :: k :: rest ∧ headerOk c l k = true ∧ hasData c l = true ∧
      rest.length = (follow c l).1 + (follow c l).2 ∧
      payloadOf c l (rest.take (follow c l).1) = bytes ∧
      ctlSn c = sn ∧ ctlAn c = an ∧ ctlEor c = eor ∧ ctlAck c = true

/-- R195: the laws of the estimator: (1) the new `srtt` lies between the old one and the sample; (2) `rto` is at least 200,
is 200 up to `srtt` = 133, then one and a half times `srtt`, and saturates from 2863311530 on; (3) with a constant sample,
`srtt` falls strictly from above until it equals the sample, and rises from below until it is at most 4 short; (4) the
worked values. The rule's samples have 32 bits; a longer one, which needs a `TIME_W` above 32, follows the same laws where
the new `srtt` has room in 32 bits. -/
def Obligations.EstimatorLaws : Prop :=
  (∀ (srtt : Millis) (rtt : Nat), rtt < 2 ^ 32 ∨ (8 * srtt.toNat + 2 * rtt) / 10 < 2 ^ 32 →
    min srtt.toNat rtt ≤ (srttNext srtt rtt).toNat ∧ (srttNext srtt rtt).toNat ≤ max srtt.toNat rtt) ∧
  (∀ srtt : Millis,
    200 ≤ (rtoOf srtt).toNat ∧
    (srtt.toNat ≤ 133 → rtoOf srtt = 200) ∧
    (134 ≤ srtt.toNat → srtt.toNat < 2863311530 → (rtoOf srtt).toNat = 3 * srtt.toNat / 2) ∧
    (2863311530 ≤ srtt.toNat → (rtoOf srtt).toNat = 2 ^ 32 - 1)) ∧
  (∀ (srtt : Millis) (r : Nat), r < 2 ^ 32 ∨ (8 * srtt.toNat + 2 * r) / 10 < 2 ^ 32 →
    (r < srtt.toNat → r ≤ (srttNext srtt r).toNat ∧ (srttNext srtt r).toNat < srtt.toNat) ∧
    (srtt.toNat + 4 < r → srtt.toNat < (srttNext srtt r).toNat) ∧
    (srtt.toNat ≤ r → r ≤ srtt.toNat + 4 → srttNext srtt r = srtt)) ∧
  (∀ w ∈ [((100, 40), 88, 200), ((100, 50), 90, 200), ((100, 0), 80, 200), ((100, 1000), 280, 420), ((280, 3), 224, 336),
      ((1000, 200), 840, 1260)],
    srttNext (BitVec.ofNat 32 w.1.1) w.1.2 = BitVec.ofNat 32 w.2.1 ∧ rtoOf (BitVec.ofNat 32 w.2.1) = BitVec.ofNat 32 w.2.2)

/-! ## Framer -/

/-- R120 to R129: what one RXB does in each phase of an open connection, when the byte is in time; and that a byte that comes
`T_BYTE` or more after the last one is looked at as in HUNT. -/
def Obligations.RxbAdvancesTheFramer : Prop :=
  ∀ (s : State) (now : Time) (b : Byte), s.opened = true → s.busy = false →
    let n := stamp s now
    let waited := elapsed s.cfg.timeW s.rxTs n
    (s.rxPhase ≠ .hunt → s.cfg.tByte.toNat ≤ waited →
      exec (.rxb now b) s = .next { s with rxTs := n, rxPhase := if b = 0x01 then .ctl else .hunt }) ∧
    (s.rxPhase = .hunt →
      exec (.rxb now b) s = .next { s with rxTs := n, rxPhase := if b = 0x01 then .ctl else .hunt }) ∧
    (waited < s.cfg.tByte.toNat →
      (s.rxPhase = .ctl → exec (.rxb now b) s = .next { s with rxTs := n, rxCtl := b, rxPhase := .len }) ∧
      (s.rxPhase = .len → exec (.rxb now b) s = .next { s with rxTs := n, rxLen := b, rxPhase := .cks }) ∧
      (s.rxPhase = .cks → headerOk s.rxCtl s.rxLen b = false →
        exec (.rxb now b) s = .next { s with rxTs := n, rxPhase := .hunt }) ∧
      (s.rxPhase = .cks → headerOk s.rxCtl s.rxLen b = true → follow s.rxCtl s.rxLen ≠ (0, 0) →
        exec (.rxb now b) s = .next { s with rxTs := n, rxCnt := 0, rxPhase := .pay }) ∧
      (s.rxPhase = .cks → headerOk s.rxCtl s.rxLen b = true → follow s.rxCtl s.rxLen = (0, 0) →
        exec (.rxb now b) s =
          .next (event
            (packetStep ⟨s.rxCtl, s.rxLen, payloadOf s.rxCtl s.rxLen (s.rxPay.readBytes 0 s.rxLen.toNat)⟩ n)
            { s with rxTs := n, rxPhase := .hunt })) ∧
      (s.rxPhase = .pay → s.rxCnt + 1 ≠ s.rxLen →
        exec (.rxb now b) s =
          .next { s with rxTs := n, rxPay := s.rxPay.write s.rxCnt.toNat b, rxCnt := s.rxCnt + 1 }) ∧
      (s.rxPhase = .pay → s.rxCnt + 1 = s.rxLen → 1 < s.rxLen.toNat →
        exec (.rxb now b) s =
          .next { s with
            rxTs := n, rxPay := s.rxPay.write s.rxCnt.toNat b, rxCnt := s.rxCnt + 1, rxPhase := .crch }) ∧
      (s.rxPhase = .pay → s.rxCnt + 1 = s.rxLen → s.rxLen.toNat ≤ 1 →
        exec (.rxb now b) s =
          .next (event
            (packetStep ⟨s.rxCtl, s.rxLen, (s.rxPay.write s.rxCnt.toNat b).readBytes 0 1⟩ n)
            { s with
              rxTs := n, rxPay := s.rxPay.write s.rxCnt.toNat b, rxCnt := s.rxCnt + 1, rxPhase := .hunt })) ∧
      (s.rxPhase = .crch → exec (.rxb now b) s = .next { s with rxTs := n, rxCrcHi := b, rxPhase := .crcl }) ∧
      (s.rxPhase = .crcl → join16 s.rxCrcHi b ≠ crc16 s.cfg.crc (s.rxPay.readBytes 0 s.rxLen.toNat) →
        exec (.rxb now b) s = .next { s with rxTs := n, rxPhase := .hunt }) ∧
      (s.rxPhase = .crcl → join16 s.rxCrcHi b = crc16 s.cfg.crc (s.rxPay.readBytes 0 s.rxLen.toNat) →
        exec (.rxb now b) s =
          .next (event (packetStep ⟨s.rxCtl, s.rxLen, s.rxPay.readBytes 0 s.rxLen.toNat⟩ n)
            { s with rxTs := n, rxPhase := .hunt })))

/-- R130 (4), R196, R201, R280: while `open = 0` the channel, the timer and the dispatcher change nothing, whole packets of
every form among them. -/
def Obligations.ClosedBlockIgnoresChannelAndTime : Prop :=
  ∀ (i : Instr) (s : State), s.opened = false → s.busy = false →
    (fromChannel i = true ∨ (∃ now, i = .tmr now) ∨ ∃ now, i = .dsp now) → exec i s = .next s

/-- R87, R117, R124: each of the seven forms of layout H, received whole with a valid checksum while the framer hunts, runs
the packet step on its control byte, its length byte and its logical payload, after the header has passed through the
framer's registers. -/
def Obligations.HeaderFormsRunThePacketStep : Prop :=
  ∀ (s : State) (now : Time) (k : Byte), HuntReady s →
    (headerOk 0x80 0xFF k = true → exec (.syn now k) s = steps ⟨0x80, 0xFF, []⟩ now s) ∧
    (∀ an, headerOk (mkCtl 0xC0 false an) 0xFF k = true →
      exec (.synack now an k) s = steps ⟨mkCtl 0xC0 false an, 0xFF, []⟩ now s) ∧
    (∀ sn an, headerOk (mkCtl 0x40 sn an) 0 k = true →
      exec (.ack now sn an k) s = steps ⟨mkCtl 0x40 sn an, 0, []⟩ now s) ∧
    (∀ sn, headerOk (mkCtl 0x10 sn false) 0 k = true →
      exec (.rst now sn k) s = steps ⟨mkCtl 0x10 sn false, 0, []⟩ now s) ∧
    (∀ sn an, headerOk (mkCtl 0x50 sn an) 0 k = true →
      exec (.rstack now sn an k) s = steps ⟨mkCtl 0x50 sn an, 0, []⟩ now s) ∧
    (∀ sn an, headerOk (mkCtl 0x60 sn an) 0 k = true →
      exec (.finack now sn an k) s = steps ⟨mkCtl 0x60 sn an, 0, []⟩ now s) ∧
    (∀ sn an eor b, headerOk (dataCtl 0x41 sn an eor) b k = true →
      exec (.data1 now sn an eor b k) s = steps ⟨dataCtl 0x41 sn an eor, b, [b]⟩ now s)

/-- R125 to R127: a packet of layout PC or P1 received whole with a valid checksum while the framer hunts. Its payload stands
in `rx_pay` afterwards. Layout PC runs the packet step on the payload when the CRC matches and has no other effect when
it does not; layout P1 has no CRC. -/
def Obligations.PayloadPacketsRunThePacketStep : Prop :=
  ∀ (s : State) (now : Time) (k : Byte), HuntReady s → s.rxPay.wf rxPaySize = true →
    (∀ (sn an eor : Bool) (payload : List Byte) (crc : BitVec 16), DataFits payload →
      headerOk (dataCtl 0x40 sn an eor) (lenByte payload) k = true →
      let t := { s with rxPay := s.rxPay.writeBytes 0 payload, rxCnt := lenByte payload, rxCrcHi := hi16 crc }
      exec (.data now sn an eor k payload crc) s =
        if crc = crc16 s.cfg.crc payload then steps ⟨dataCtl 0x40 sn an eor, lenByte payload, payload⟩ now t
        else discards (dataCtl 0x40 sn an eor) (lenByte payload) now t) ∧
    (∀ (ackf sn an eor : Bool) (b : Byte), headerOk (dataCtl (bitAt ackf 6) sn an eor) 1 k = true →
      exec (.datap1 now ackf sn an eor k b) s =
        steps ⟨dataCtl (bitAt ackf 6) sn an eor, 1, [b]⟩ now { s with rxPay := s.rxPay.write 0 b, rxCnt := 1 })

/-- R124, R130 (1), (3): a packet whose header checksum is wrong, received while the framer hunts, touches nothing but the
framer; the payload it announces is not skipped: its bytes are hunted through. -/
def Obligations.BadChecksumDiscardsTheHeader : Prop :=
  ∀ (s : State) (now : Time) (k : Byte), HuntReady s →
    (headerOk 0x80 0xFF k = false → exec (.syn now k) s = discards 0x80 0xFF now s) ∧
    (∀ an, headerOk (mkCtl 0xC0 false an) 0xFF k = false →
      exec (.synack now an k) s = discards (mkCtl 0xC0 false an) 0xFF now s) ∧
    (∀ sn an, headerOk (mkCtl 0x40 sn an) 0 k = false → exec (.ack now sn an k) s = discards (mkCtl 0x40 sn an) 0 now s) ∧
    (∀ sn, headerOk (mkCtl 0x10 sn false) 0 k = false → exec (.rst now sn k) s = discards (mkCtl 0x10 sn false) 0 now s) ∧
    (∀ sn an, headerOk (mkCtl 0x50 sn an) 0 k = false →
      exec (.rstack now sn an k) s = discards (mkCtl 0x50 sn an) 0 now s) ∧
    (∀ sn an, headerOk (mkCtl 0x60 sn an) 0 k = false →
      exec (.finack now sn an k) s = discards (mkCtl 0x60 sn an) 0 now s) ∧
    (∀ sn an eor b, headerOk (dataCtl 0x41 sn an eor) b k = false →
      exec (.data1 now sn an eor b k) s = discards (dataCtl 0x41 sn an eor) b now s) ∧
    (∀ sn an eor payload crc, headerOk (dataCtl 0x40 sn an eor) (lenByte payload) k = false →
      exec (.data now sn an eor k payload crc) s =
        execAll ((payload ++ crcBytes crc).map (.rxb now))
          { afterHeader (dataCtl 0x40 sn an eor) (lenByte payload) now s with busy := false }) ∧
    (∀ ackf sn an eor b, headerOk (dataCtl (bitAt ackf 6) sn an eor) 1 k = false →
      exec (.datap1 now ackf sn an eor k b) s =
        exec (.rxb now b) { afterHeader (dataCtl (bitAt ackf 6) sn an eor) 1 now s with busy := false })

/-- R60, R67, R125: the payload buffer. Of all events only an RXB in phase PAY, in time, stores a byte there, the received byte at
index `rx_cnt`; every other byte of the buffer reads as before. OPENA, OPENP and RELEASE, which set every register to its
reset value, are not among these events. -/
def Obligations.PayloadBufferFrame : Prop :=
  (∀ (s t : State) (now : Time) (b : Byte), s.rxPay.wf rxPaySize = true → exec (.rxb now b) s = .next t →
    ∀ a : Nat, t.rxPay.read a =
      if s.opened = true ∧ s.rxPhase = .pay ∧ elapsed s.cfg.timeW s.rxTs now < s.cfg.tByte.toNat ∧ a = s.rxCnt.toNat then b
      else s.rxPay.read a) ∧
  (∀ (s t : State) (i : Instr), exec i s = .next t →
    (∃ now eor tag bytes, i = .txpush now eor tag bytes) ∨ (∃ now, i = .rxpop now) ∨ (∃ now, i = .close now) ∨
      (∃ now v, i = .wrcfg now v) ∨ (∃ now, i = .tmr now) ∨ (∃ now, i = .dsp now) →
    ∀ a : Nat, t.rxPay.read a = s.rxPay.read a)

/-! ## State machine -/

/-- R144: procedure A, the whole packet step in LISTEN. -/
def Obligations.ListenAnswers : Prop :=
  ∀ (s : State) (p : Pkt) (now : Time), Inv { s with busy := false } → s.conn = .listen →
    packetStep p now s =
      if pktRst p then s
      else if pktAck p then sent (rstPacket p) now s
      else if pktSyn p then
        { sent (synackPacket p) now s with snReceived := pktSn p, snSent := false, conn := .synReceived }
      else s

/-- R145: procedure B, the whole packet step in SYN_SENT. -/
def Obligations.SynSentAnswers : Prop :=
  ∀ (s : State) (p : Pkt) (now : Time), Inv { s with busy := false } → s.conn = .synSent →
    packetStep p now s =
      if pktAck p && !anExpected p s then (if pktRst p then s else sent (rstPacket p) now s)
      else if pktRst p then { s with status := .connectionRefused, conn := .closed, rtxValid := false }
      else if pktSyn p && pktAck p then
        emitted (ackPacket p) { ackAccepted now s with snReceived := pktSn p, conn := .established }
      else if pktSyn p then
        { sent (synackPacket p) now s with snReceived := pktSn p, snSent := false, conn := .synReceived }
      else s

/-- R146, R148, R151, R152, R156, R162: the packet step in SYN_RECEIVED. -/
def Obligations.SynReceivedAnswers : Prop :=
  ∀ (s : State) (p : Pkt) (now : Time), Inv { s with busy := false } → s.conn = .synReceived →
    packetStep p now s =
      if !snExpected p s then (if pktRst p || pktFin p then s else emitted (ackPacket p) s)
      else if pktRst p then
        (if s.active then { s with status := .connectionRefused, conn := .closed, rtxValid := false }
        else { s with rtxValid := false, retry := 0, conn := .listen })
      else if pktSyn p then
        { sent (rstPacket p) now s with status := .connectionReset, conn := .closed, rtxValid := false }
      else if !pktAck p then s
      else if !anExpected p s then
        (if s.active then { sent (rstPacket p) now s with status := .connectionRefused, conn := .closed, rtxValid := false }
        else { sent (rstPacket p) now s with conn := .listen })
      else if pktHasData p && !queueFull s.cfg.rxqDepth s.rxq.length then
        emitted (ackPacket p)
          { ackAccepted now s with
            conn := .established, rxq := s.rxq ++ [⟨p.bytes, pktEor p⟩], snReceived := pktSn p }
      else { ackAccepted now s with conn := .established }

/-- R147, R149, R151, R153, R157, R162: the packet step in ESTABLISHED. -/
def Obligations.EstablishedAnswers : Prop :=
  ∀ (s : State) (p : Pkt) (now : Time), Inv { s with busy := false } → s.conn = .established →
    packetStep p now s =
      if !snExpected p s && (pktRst p || pktFin p) then s
      else if !snExpected p s && !pktSyn p then emitted (ackPacket p) s
      else if pktRst p then
        { s with
          status := .connectionReset, conn := .closed, rtxValid := false, curValid := false
          outs := s.outs ++ completion s .connectionReset }
      else if pktSyn p then
        { sent (rstPacket p) now s with
          status := .connectionReset, conn := .closed, rtxValid := false, curValid := false
          outs := s.outs ++ [.tx (rstPacket p)] ++ completion s .connectionReset }
      else if !pktAck p then s
      else if pktFin p then
        let t := afterAck p now s
        let q := makeHeader (mkCtl 0x60 (pktAn p) (!pktSn p)) 0
        { sent q now t with
          snReceived := pktSn p, snSent := pktAn p, conn := .lastAck, curValid := false
          outs := t.outs ++ [.tx q] ++ completion t .connectionReset }
      else if pktHasData p && !queueFull s.cfg.rxqDepth s.rxq.length then
        let t := { afterAck p now s with rxq := s.rxq ++ [⟨p.bytes, pktEor p⟩], snReceived := pktSn p }
        if t.curValid || t.txq.isEmpty then emitted (ackPacket p) t else dispatch now t
      else afterAck p now s

/-- R147, R149, R151, R154, R158: the packet step in FIN_WAIT. -/
def Obligations.FinWaitAnswers : Prop :=
  ∀ (s : State) (p : Pkt) (now : Time), Inv { s with busy := false } → s.conn = .finWait →
    packetStep p now s =
      if !snExpected p s && (pktRst p || pktFin p) then s
      else if !snExpected p s && !pktSyn p then emitted (ackPacket p) s
      else if pktRst p then { s with status := .connectionReset, conn := .closed, rtxValid := false }
      else if pktSyn p then
        { sent (rstPacket p) now s with status := .connectionReset, conn := .closed, rtxValid := false }
      else if !pktAck p then s
      else if !pktFin p then afterAck p now s
      else if pktHasData p then
        { sent (makeHeader (mkCtl 0x50 (pktAn p) (!pktSn p)) 0) now (afterAck p now s) with
          status := .connectionReset, conn := .closed, rtxValid := false }
      else if anExpected p s then
        { emitted (ackPacket p) (afterAck p now s) with twTs := now, conn := .timeWait }
      else { emitted (ackPacket p) s with conn := .closing }

/-- R147, R150, R151, R154, R159, R160, R161: the packet step in LAST_ACK, CLOSING and TIME_WAIT. -/
def Obligations.LateClosingStatesAnswer : Prop :=
  ∀ (s : State) (p : Pkt) (now : Time), Inv { s with busy := false } →
    (s.conn = .lastAck ∨ s.conn = .closing →
      packetStep p now s =
        if !snExpected p s && (pktRst p || pktFin p) then s
        else if !snExpected p s && !pktSyn p then emitted (ackPacket p) s
        else if pktRst p then { s with status := .connectionReset, conn := .closed, rtxValid := false }
        else if pktSyn p then
          { sent (rstPacket p) now s with status := .connectionReset, conn := .closed, rtxValid := false }
        else if pktAck p && anExpected p s then
          (if s.conn = .lastAck then { ackAccepted now s with status := .connectionReset, conn := .closed }
          else { ackAccepted now s with twTs := now, conn := .timeWait })
        else s) ∧
    (s.conn = .timeWait →
      packetStep p now s =
        if pktRst p then { s with status := .connectionReset, conn := .closed }
        else if pktSyn p then
          { sent (rstPacket p) now s with status := .connectionReset, conn := .closed, rtxValid := false }
        else if pktAck p && pktFin p then { emitted (ackPacket p) s with twTs := now }
        else s)

/-- R155: procedure G, the packet step in CLOSED: a correcting reset to every packet without RST, and nothing else. -/
def Obligations.ClosedAnswers : Prop :=
  ∀ (s : State) (p : Pkt) (now : Time), s.conn = .closed →
    packetStep p now s =
      if pktRst p then s
      else if pktAck p then emitted (makeHeader (mkCtl 0x10 (pktAn p) false) 0) s
      else emitted (makeHeader (mkCtl 0x50 false (!pktSn p)) 0) s

/-- R172: the procedure lists of R171, run procedure by procedure on any packet in any state, change `state` and `status` as
the packet rows of the transition table say, and in no other way. -/
def Obligations.ProcedureListsRealiseTheTransitionTable : Prop :=
  ∀ (s : State) (p : Pkt) (now : Time),
    (packetStep p now s).conn = (tableNext s p).1 ∧ (packetStep p now s).status = (tableNext s p).2

/-! ## Shared operations -/

/-- R191, R193, R205: what SendSeg does: a packet that is not retransmittable is emitted and leaves the slot alone; any other
is emitted, completes the fragment it displaces with ConnectionReset unless it is that fragment's own dispatch, and
enters the slot. -/
def Obligations.SendSegEmitsAndLoadsTheSlot : Prop :=
  ∀ (p : List Byte) (now : Time) (own : Bool) (s : State),
    (retransmittable p = false → sendSeg p now own s = emitted p s) ∧
    (retransmittable p = true → own = true ∨ s.curValid = false → sendSeg p now own s = sent p now s) ∧
    (retransmittable p = true → own = false → s.curValid = true →
      sendSeg p now own s =
        { sent p now s with
          curValid := false, outs := s.outs ++ [.tx p, .complete s.curTag .connectionReset] })

/-- R67, R191, R198: what SendSeg copies into `rtx_buf` is what a retransmission sends, byte for byte; the bytes of the
buffer beyond the packet read as before, and its canonical form is kept. -/
def Obligations.SlotHoldsThePacketVerbatim : Prop :=
  ∀ (p : List Byte) (now : Time) (own : Bool) (s : State),
    retransmittable p = true → p.length ≤ rtxBufSize → s.rtxBuf.wf rtxBufSize = true →
    let t := sendSeg p now own s
    slotPacket t = p ∧ t.rtxBuf.wf rtxBufSize = true ∧ ∀ a, p.length ≤ a → t.rtxBuf.read a = s.rtxBuf.read a

/-- R256: the failure entry stores the code, forces CLOSED, empties the slot and completes the outstanding fragment with the
code; it touches nothing else. -/
def Obligations.FailStoresTheCodeAndCloses : Prop :=
  ∀ (code : Code) (s : State),
    fail code s =
      { s with
        status := code, conn := .closed, rtxValid := false, curValid := false, outs := s.outs ++ completion s code }

/-- R194: an accepted acknowledgment samples the round-trip time from the slot's stamp when the slot is held, updates `srtt`
and `rto` by the source's formulas in integers, clears the slot and `retry`, and completes the outstanding fragment with
OK; with an empty slot the estimator does not run. Where the new `srtt` has no room in 32 bits, which needs a `TIME_W` above
32, its value is free (log 15). -/
def Obligations.AckAcceptedUpdatesTheEstimator : Prop :=
  ∀ (now : Time) (s : State),
    let t := ackAccepted now s
    let rtt := (((now : Int) - (s.rtxTs : Int)) % 2 ^ s.cfg.timeW).toNat
    let next := (8 * s.srtt.toNat + 2 * rtt) / 10
    (s.rtxValid = false → t = { s with curValid := false, outs := s.outs ++ completion s .ok }) ∧
    (s.rtxValid = true →
      t = { s with
        srtt := t.srtt, rto := t.rto, rtxValid := false, retry := 0, curValid := false
        outs := s.outs ++ completion s .ok } ∧
      (next < 2 ^ 32 → t.srtt.toNat = next) ∧ (s.cfg.timeW ≤ 32 → next < 2 ^ 32) ∧
      t.rto.toNat = min (2 ^ 32 - 1) (max 200 (15 * t.srtt.toNat / 10)))

/-- R200, R192, R201: a DSP with the guard true dispatches the head of `txq`: the fragment leaves the queue and becomes
outstanding under its tag, `sn_sent` alternates, and the data packet with that SN, the AN `sn_received ^ 1` and the
fragment's EOR is emitted and held in the slot; with the guard false a DSP changes nothing. -/
def Obligations.DspDispatchesTheHeadFragment : Prop :=
  ∀ (s : State) (now : Time), s.busy = false →
    (∀ (e : TxEntry) (rest : List TxEntry), s.opened = true → s.conn = .established → s.curValid = false →
      s.rtxValid = false → s.txq = e :: rest → FragmentSize e.bytes →
      exec (.dsp now) s =
        .next { sent (buildData s.cfg.crc (!s.snSent) (!s.snReceived) e.eor e.bytes) (stamp s now) s with
          txq := rest, curValid := true, curTag := e.tag, snSent := !s.snSent }) ∧
    (s.opened = false ∨ s.conn ≠ .established ∨ s.curValid = true ∨ s.rtxValid = true ∨ s.txq = [] →
      exec (.dsp now) s = .next s)

/-! ## Timers -/

/-- R196, R197, R199: a TMR with no retransmission due forgets a partial packet older than `T_BYTE` and ends a TIME_WAIT that
has lasted `2 * srtt` with ConnectionReset; when neither is due it changes nothing. -/
def Obligations.TimerEndsTimeWait : Prop :=
  ∀ (s : State) (now : Time), Inv s → s.opened = true →
    (s.rtxValid = false ∨ elapsed s.cfg.timeW s.rtxTs now < s.rto.toNat) →
    let t := if s.rxPhase ≠ .hunt ∧ s.cfg.tByte.toNat ≤ elapsed s.cfg.timeW s.rxTs now then { s with rxPhase := .hunt } else s
    exec (.tmr now) s =
      if s.conn = .timeWait ∧ 2 * s.srtt.toNat ≤ elapsed s.cfg.timeW s.twTs now then
        .next { t with status := .connectionReset, conn := .closed }
      else .next t

/-- R198: a TMR that finds the held segment `rto` ms old or older resends it verbatim, counts the retry and restarts the
timer; when the count reaches `max_retries` it fails the connection with Timeout in the same event. -/
def Obligations.TimerRetransmitsVerbatim : Prop :=
  ∀ (s : State) (now : Time), Inv s → s.rtxValid = true → s.rto.toNat ≤ elapsed s.cfg.timeW s.rtxTs now →
    let t := if s.rxPhase ≠ .hunt ∧ s.cfg.tByte.toNat ≤ elapsed s.cfg.timeW s.rxTs now then { s with rxPhase := .hunt } else s
    exec (.tmr now) s =
      if s.maxRetries.toNat ≤ (s.retry + 1).toNat then
        .next { t with
          outs := s.outs ++ [.tx (s.rtxBuf.readBytes 0 s.rtxLen)] ++ completion s .timeout
          retry := s.retry + 1, rtxTs := stamp s now
          status := .timeout, conn := .closed, rtxValid := false, curValid := false }
      else
        .next { t with
          outs := s.outs ++ [.tx (s.rtxBuf.readBytes 0 s.rtxLen)], retry := s.retry + 1, rtxTs := stamp s now }

/-! ## Host commands -/

/-- R216: OPENA. The registers that R45 calls unspecified take any value, but for the slot that the SYN enters. -/
def Obligations.OpenaSendsSyn : Prop :=
  ∀ (s : State) (now : Time), s.busy = false →
    (s.opened = true → exec (.opena now) s = .next { s with outs := s.outs ++ [.respond .refused none] }) ∧
    (s.opened = false →
      ∃ t, exec (.opena now) s = .next t ∧ slotPacket t = [0x01, 0x80, 0xFF, 0x80] ∧
        t = { resetValues s t with
          opened := true, active := true, conn := .synSent, rtxValid := true, rtxLen := 4, rtxTs := stamp s now
          outs := s.outs ++ [.tx [0x01, 0x80, 0xFF, 0x80], .respond .ok none] })

/-- R217: OPENP. The registers that R45 calls unspecified take any value. -/
def Obligations.OpenpListens : Prop :=
  ∀ (s : State) (now : Time), s.busy = false →
    (s.opened = true → exec (.openp now) s = .next { s with outs := s.outs ++ [.respond .refused none] }) ∧
    (s.opened = false →
      ∃ t, exec (.openp now) s = .next t ∧
        t = { resetValues s t with
          opened := true, active := false, conn := .listen, outs := s.outs ++ [.respond .ok none] })

/-- R218: TXPUSH, with its tests in the order of the rule, and R10: `Full`, in numbers: a queue is full when its depth is
some `d` and it holds `d` entries or more; an unbounded queue is never full. -/
def Obligations.TxpushQueuesOneFragment : Prop :=
  (∀ (s : State) (now : Time) (eor : Bool) (tag : Tag) (bytes : List Byte), s.busy = false →
    let full := ∃ d, s.cfg.txqDepth = some d ∧ d ≤ s.txq.length
    let i := Instr.txpush now eor tag bytes
    (¬(s.opened = true ∧ s.conn = .established) →
      exec i s = .next { s with outs := s.outs ++ [.respond .networkDown none] }) ∧
    (s.opened = true → s.conn = .established →
      (bytes.length = 0 ∨ 255 < bytes.length → exec i s = .next { s with outs := s.outs ++ [.respond .refused none] }) ∧
      (1 ≤ bytes.length → bytes.length ≤ 255 →
        (full → exec i s = .next { s with outs := s.outs ++ [.respond .wouldBlock none] }) ∧
        (¬full → exec i s =
          .next { s with
            txq := s.txq ++ [⟨bytes, eor, tag % 2 ^ s.cfg.tagW⟩], outs := s.outs ++ [.respond .ok none] })))) ∧
  (∀ (depth : Option Nat) (entries : Nat), queueFull depth entries = true ↔ ∃ d, depth = some d ∧ d ≤ entries)

/-- R219: RXPOP. -/
def Obligations.RxpopTakesTheHead : Prop :=
  ∀ (s : State) (now : Time), s.busy = false →
    (s.rxq = [] → exec (.rxpop now) s = .next { s with outs := s.outs ++ [.respond .wouldBlock none] }) ∧
    (∀ e rest, s.rxq = e :: rest →
      exec (.rxpop now) s = .next { s with rxq := rest, outs := s.outs ++ [.respond .ok (some e)] })

/-- R220: CLOSE. -/
def Obligations.CloseSendsFin : Prop :=
  ∀ (s : State) (now : Time), s.busy = false →
    let q := makeHeader (mkCtl 0x60 (!s.snSent) (!s.snReceived)) 0
    exec (.close now) s =
      if s.opened = true ∧ s.conn = .established then
        .next { sent q (stamp s now) s with
          snSent := !s.snSent, conn := .finWait, curValid := false
          outs := s.outs ++ [.tx q] ++ completion s .connectionReset ++ [.respond .ok none] }
      else .next { s with outs := s.outs ++ [.respond .ok none] }

/-- R221, R281: RELEASE completes the outstanding and every queued fragment with ConnectionReset, head first, emits no
packet, and leaves the reset state but for `max_retries`. The registers that R45 calls unspecified take any value. -/
def Obligations.ReleaseResetsTheBlock : Prop :=
  ∀ (s : State) (now : Time), s.busy = false →
    (s.opened = false → exec (.release now) s = .next { s with outs := s.outs ++ [.respond .ok none] }) ∧
    (s.opened = true →
      ∃ t, exec (.release now) s = .next t ∧
        t = { resetValues s t with
          outs := s.outs ++ completion s .connectionReset ++
            s.txq.map (fun e => .complete e.tag .connectionReset) ++ [.respond .ok none] })

/-- R222: WRCFG. -/
def Obligations.WrcfgWritesMaxRetries : Prop :=
  ∀ (s : State) (now : Time) (v : Byte), s.busy = false →
    exec (.wrcfg now v) s = .next { s with maxRetries := v, outs := s.outs ++ [.respond .ok none] }

/-- The model's choice (log 7) for the case R288 leaves without behaviour: a host command presented while `busy = 1` stops
the machine by name. -/
def Obligations.CommandWhileBusyStops : Prop :=
  ∀ (s : State) (i : Instr), s.busy = true → (tableAnswer i s).isSome = true → exec i s = .fault .commandWhileBusy

/-- R215, R225: every host command answers exactly once, with the code of the table; only OPENA and CLOSE emit packets and
only CLOSE and RELEASE emit completions. -/
def Obligations.CommandsAnswerOnceByTheTable : Prop :=
  ∀ (s t : State) (i : Instr) (code : Code), tableAnswer i s = some code → exec i s = .next t →
    (∃ payload, responses t.outs = responses s.outs ++ [(code, payload)]) ∧
    (silentCommand i = true → txStream t.outs = txStream s.outs) ∧
    (uncompletingCommand i = true → completions t.outs = completions s.outs)

/-! ## Invariants and whole-machine rules -/

/-- The state after reset satisfies the invariants. It rests on the reset values of log 6 only in that the two buffers are in
canonical form. -/
def Obligations.ResetHasTheInvariants : Prop := Inv State.reset

/-- R40, R41: every step from a state that satisfies the invariants leaves a state that satisfies them, whatever the
environment presents. -/
def Obligations.StepKeepsTheInvariants : Prop :=
  ∀ s t : State, Inv s → step s = .next t → Inv t

/-- R260, R202 (1): completion exactly once and in order. The tags completed so far, followed by the tags still waiting, grow
by exactly the tag of an accepted TXPUSH and are otherwise the same list before and after every instruction: no tag is
lost, completed twice or overtaken. -/
def Obligations.CompletionsAreExactlyOnceAndInOrder : Prop :=
  ∀ (i : Instr) (s t : State), Inv s → exec i s = .next t →
    completedTags t ++ pendingTags t = completedTags s ++ pendingTags s ++ pushedTag i s

/-- R262, R196, 90_conflicts.md C1: CLOSED is inert. No instruction but RELEASE leaves it; until then the stored error stays,
nothing is completed, dispatched or held for retransmission, and packets leave only in answer to received bytes. -/
def Obligations.ClosedIsInertUntilRelease : Prop :=
  ∀ (i : Instr) (s t : State), Inv s → s.opened = true → s.conn = .closed → isRelease i = false → exec i s = .next t →
    t.opened = true ∧ t.conn = .closed ∧ t.status = s.status ∧ t.rtxValid = false ∧ t.curValid = false ∧
    t.txq = s.txq ∧ completions t.outs = completions s.outs ∧
    (fromChannel i = false → txStream t.outs = txStream s.outs)

/-- R88, R131: every packet the block emits is one of the eight forms, with a valid header checksum and, where it has one, a
valid CRC. -/
def Obligations.EveryEmittedPacketIsOfTheEightForms : Prop :=
  ∀ (i : Instr) (s t : State), Inv s → exec i s = .next t →
    ∃ l, txStream t.outs = txStream s.outs ++ l ∧ ∀ p ∈ l, WirePacket s.cfg.crc p

/-- A step never changes the parameters, takes exactly the next arrival, and only appends to the outputs. All three are
fields of the model's own: `cfg` (log 3), which holds what R46 says is no state; `inbox` (log 1); `outs` (log 2), which
holds the outputs of R44 that no rule reads back. -/
def Obligations.StepAppendsOutputsAndKeepsParameters : Prop :=
  ∀ s t : State, step s = .next t →
    t.cfg = s.cfg ∧ t.inbox = s.inbox.tail ∧ ∃ l, t.outs = s.outs ++ l

/-- R41 (vii): while the connection is not closed `retry` stays within the limit, under every instruction that does not write
the limit. -/
def Obligations.RetryStaysWithinTheLimit : Prop :=
  ∀ (i : Instr) (s t : State), Inv s → isWrcfg i = false →
    (s.conn ≠ .closed → s.retry.toNat ≤ max s.maxRetries.toNat 1) → exec i s = .next t →
    (t.conn ≠ .closed → t.retry.toNat ≤ max t.maxRetries.toNat 1)

/-- R23, R28: `max_retries` is written by WRCFG alone, and `active` never changes between the OPEN command and RELEASE. -/
def Obligations.ConfigurationRegistersHaveOneWriter : Prop :=
  ∀ (i : Instr) (s t : State), exec i s = .next t →
    (∀ now v, i = .wrcfg now v → t.maxRetries = v) ∧ (isWrcfg i = false → t.maxRetries = s.maxRetries) ∧
    (s.opened = true → isRelease i = false → t.active = s.active)

/-- R147, R202 (3): a data packet accepted in ESTABLISHED is stored once; received again it is not stored, changes nothing
else, and draws a bare acknowledgment of its SN. -/
def Obligations.DuplicateDataIsAcknowledgedNotStored : Prop :=
  ∀ (s : State) (p : Pkt) (now later : Time), Inv { s with busy := false } → s.conn = .established → snExpected p s = true →
    pktRst p = false → pktSyn p = false → pktFin p = false → pktAck p = true → pktHasData p = true →
    queueFull s.cfg.rxqDepth s.rxq.length = false →
    let t := packetStep p now s
    t.rxq = s.rxq ++ [⟨p.bytes, pktEor p⟩] ∧ t.snReceived = pktSn p ∧
      packetStep p later t = emitted (ackPacket p) t

/-! ## Registers -/

/-- R36, R38: the host-visible registers after reset. The value of `SRTT` and `RTO` is that of the default parameter
`SRTT_INIT` (R8). -/
def Obligations.RegistersAfterReset : Prop :=
  readReg State.reset 0 = 100 ∧ readReg State.reset 1 = 0x08 ∧ readReg State.reset 2 = 0x20 ∧
  readReg State.reset 3 = 0 ∧ readReg State.reset 4 = 100 ∧ readReg State.reset 5 = 200 ∧ readReg State.reset 6 = 0 ∧
  ∀ n, 7 ≤ n → readReg State.reset n = 0

/-- R22, R36, R38, R250: the fields of the registers `STATE`, `FLAGS` and `ERR`, in every state, with the numbers of the
states and of the codes; and the other registers. -/
def Obligations.RegisterFields : Prop :=
  (∀ w ∈ [(ConnState.listen, 0), (.synSent, 1), (.synReceived, 2), (.established, 3), (.finWait, 4), (.lastAck, 5),
      (.closing, 6), (.timeWait, 7), (.closed, 8)],
    ∀ s : State, s.conn = w.1 → ((readReg s 1).extractLsb' 0 4).toNat = w.2) ∧
  (∀ w ∈ [(Code.ok, 0), (.connectionRefused, 1), (.connectionReset, 2), (.timeout, 3), (.networkDown, 4), (.badMessage, 5),
      (.wouldBlock, 6), (.refused, 7)],
    ∀ s : State, s.status = w.1 → ((readReg s 3).extractLsb' 0 3).toNat = w.2) ∧
  ∀ s : State,
    (readReg s 1).getLsbD 4 = s.opened ∧ (readReg s 1).extractLsb' 8 24 = 0 ∧
    (readReg s 1).getLsbD 5 = s.active ∧ (readReg s 1).getLsbD 6 = s.snSent ∧ (readReg s 1).getLsbD 7 = s.snReceived ∧
    (readReg s 2).getLsbD 0 = (s.opened && s.conn == .closed) ∧ (readReg s 2).getLsbD 1 = s.busy ∧
    (readReg s 2).getLsbD 2 = (s.opened && s.conn == .established) ∧ (readReg s 2).getLsbD 3 = s.rxq.any (·.eor) ∧
    (readReg s 2).getLsbD 4 = !s.rxq.isEmpty ∧ (readReg s 2).getLsbD 5 = (!s.curValid && !s.rtxValid) ∧
    ((readReg s 2).getLsbD 6 = true ↔ ∃ d, s.cfg.txqDepth = some d ∧ d ≤ s.txq.length) ∧ (readReg s 2).getLsbD 7 = false ∧
    (readReg s 3).extractLsb' 3 29 = 0 ∧
    readReg s 0 = s.maxRetries.setWidth 32 ∧ readReg s 4 = s.srtt ∧ readReg s 5 = s.rto ∧
    readReg s 6 = s.retry.setWidth 32 ∧ ∀ n, 7 ≤ n → readReg s n = 0

/-! ## Two engines, and the driver layer -/

/-- R283: the handshake. A block that opens actively and one that opens passively, from any unopened states, with any
parameters under which a packet can be read and at any times, are both ESTABLISHED after each has received the packets
that the other emitted: SYN, SYN+ACK, ACK. -/
def Obligations.HandshakeEstablishesBothSides : Prop :=
  ∀ (x y : State) (t0 t1 t2 t3 t4 : Time),
    x.opened = false → x.busy = false → x.cfg.tByte ≠ 0 → y.opened = false → y.busy = false → y.cfg.tByte ≠ 0 →
    ∃ x1 x2 y1 y2 y3,
      exec (.opena t0) x = .next x1 ∧ txStream x1.outs = txStream x.outs ++ [[0x01, 0x80, 0xFF, 0x80]] ∧
      exec (.openp t1) y = .next y1 ∧
      exec (.syn t2 0x80) y1 = .next y2 ∧ txStream y2.outs = txStream y1.outs ++ [[0x01, 0xC4, 0xFF, 0x3C]] ∧
      exec (.synack t3 true 0x3C) x1 = .next x2 ∧ txStream x2.outs = txStream x1.outs ++ [[0x01, 0x4C, 0x00, 0xB3]] ∧
      exec (.ack t4 true true 0xB3) y2 = .next y3 ∧
      established x2 = true ∧ established y3 = true ∧ x2.snSent = y3.snReceived ∧ y3.snSent = x2.snReceived ∧
      x2.rtxValid = false ∧ y3.rtxValid = false ∧ y3.outs = y2.outs

/-- R200, R162, R153: the delivery of one fragment between two engines. A queued fragment of any 1 to 255 bytes, dispatched by
one engine, carried byte by byte to the other, is stored there byte for byte with its EOR flag; the acknowledgment that
the other emits, carried back, completes the fragment with OK. -/
def Obligations.FragmentIsDeliveredAndCompleted : Prop :=
  ∀ (x y : State) (now later last : Time) (e : TxEntry) (rest : List TxEntry),
    Inv x → Inv y → HuntReady x → HuntReady y → x.cfg.crc = y.cfg.crc →
    x.conn = .established → x.rtxValid = false → x.txq = e :: rest →
    y.conn = .established → y.txq = [] → queueFull y.cfg.rxqDepth y.rxq.length = false → y.snReceived = x.snSent →
    ∃ p a x1,
      exec (.dsp now) x = .next x1 ∧ txStream x1.outs = txStream x.outs ++ [p] ∧
      (receive p later y).rxq = y.rxq ++ [⟨e.bytes, e.eor⟩] ∧
      txStream (receive p later y).outs = txStream y.outs ++ [a] ∧
      completions (receive a last x1).outs = completions x.outs ++ [(e.tag, .ok)] ∧
      (receive a last x1).txq = rest ∧ (receive a last x1).rtxValid = false ∧
      (receive p later y).snReceived = (receive a last x1).snSent

/-- R230: `send` cuts a message into fragments that carry it in order, each of 1 to 255 bytes, all of 255 bytes but possibly
the last, the last one and no other marked; the empty message makes none. -/
def Obligations.ChunksCarryTheMessage : Prop :=
  ∀ bytes : List Byte,
    (chunks bytes).flatMap (·.1) = bytes ∧ (∀ c ∈ chunks bytes, FragmentSize c.1) ∧
    (∀ c ∈ (chunks bytes).dropLast, c.1.length = 255) ∧
    (chunks bytes).length = (bytes.length + 254) / 255 ∧
    (bytes ≠ [] → (chunks bytes).map (·.2) = List.replicate ((chunks bytes).length - 1) false ++ [true])

/-- R236, R230: a completion invokes the callback of the oldest fragment that waits under its tag, with the completion's
code, and the driver forgets the fragment; a completion under a tag that no fragment waits under does nothing; the
driver takes no completion twice; and a `send` of the empty message invokes its callback with OK at once. Which fragment
of several under one tag is meant is the model's choice (log 12). -/
def Obligations.CallbacksFollowTheCompletions : Prop :=
  (∀ (d : Driver) (tag : Tag) (code : Code) (front back : List (Tag × Option Callback)) (cb : Option Callback),
    d.callbacks = front ++ (tag, cb) :: back → (∀ e ∈ front, e.1 ≠ tag) →
    takeCompletion d (tag, code) =
      { d with callbacks := front ++ back, invoked := d.invoked ++ cb.toList.map fun c => (c, code) }) ∧
  (∀ (d : Driver) (tag : Tag) (code : Code), (∀ e ∈ d.callbacks, e.1 ≠ tag) → takeCompletion d (tag, code) = d) ∧
  (∀ d : Driver, catchUp (catchUp d) = catchUp d) ∧
  (∀ (d : Driver) (c : Callback) (env : List PollInput), established d.block = true →
    send [] (some c) env d = (.ok, { d with invoked := d.invoked ++ [(c, .ok)] }))

/-- R231: `recv` returns the first whole message and takes exactly its fragments from the queue; without a whole message it
answers WouldBlock and changes nothing. -/
def Obligations.RecvTakesTheFirstMessage : Prop :=
  (∀ (s : State) (first : List RxEntry) (e : RxEntry) (rest : List RxEntry), s.busy = false →
    s.rxq = first ++ e :: rest → (∀ f ∈ first, f.eor = false) → e.eor = true →
    ∃ t, recv s = (.ok, first.flatMap (·.bytes) ++ e.bytes, t) ∧ t.rxq = rest ∧
      t = { s with rxq := rest, outs := t.outs }) ∧
  (∀ s : State, (∀ f ∈ s.rxq, f.eor = false) → recv s = (.wouldBlock, [], s))
end

