-- ==== Sys2Proof/Laws/Driver.lean ====
section
/-! SUPPORT. The small lemmas of the driver's operations: what each leaves in each field. -/

namespace Sys2Proof.Machine

@[simp] theorem invoke_block (cb : Option Callback) (code : Code) (d : Driver) : (invoke cb code d).block = d.block := by
  cases cb <;> rfl
@[simp] theorem invoke_callbacks (cb : Option Callback) (code : Code) (d : Driver) :
    (invoke cb code d).callbacks = d.callbacks := by
  cases cb <;> rfl
@[simp] theorem invoke_seen (cb : Option Callback) (code : Code) (d : Driver) : (invoke cb code d).seen = d.seen := by
  cases cb <;> rfl
@[simp] theorem invoke_nextTag (cb : Option Callback) (code : Code) (d : Driver) :
    (invoke cb code d).nextTag = d.nextTag := by
  cases cb <;> rfl
@[simp] theorem invoke_invoked (cb : Option Callback) (code : Code) (d : Driver) :
    (invoke cb code d).invoked = d.invoked ++ cb.toList.map fun c => (c, code) := by
  cases cb <;> simp [invoke]

@[simp] theorem takeCompletion_block (d : Driver) (c : Tag × Code) : (takeCompletion d c).block = d.block := by
  unfold takeCompletion
  split <;> simp
@[simp] theorem takeCompletion_seen (d : Driver) (c : Tag × Code) : (takeCompletion d c).seen = d.seen := by
  unfold takeCompletion
  split <;> simp

@[simp] theorem foldl_takeCompletion_block (l : List (Tag × Code)) (d : Driver) :
    (l.foldl takeCompletion d).block = d.block := by
  induction l generalizing d <;> simp_all
@[simp] theorem foldl_takeCompletion_seen (l : List (Tag × Code)) (d : Driver) :
    (l.foldl takeCompletion d).seen = d.seen := by
  induction l generalizing d <;> simp_all

/-- Taking completions does not touch the block. -/
@[simp] theorem catchUp_block (d : Driver) : (catchUp d).block = d.block := by simp [catchUp]

/-- After it every completion of the stream has been taken. -/
@[simp] theorem catchUp_seen (d : Driver) : (catchUp d).seen = (completions d.block.outs).length := by simp [catchUp]

end Sys2Proof.Machine
end

