-- ==== Sys2Proof/Laws/Memory.lean ====
section
/-! SUPPORT. The byte buffers: read after write, and the canonical form. -/

namespace Sys2Proof.Machine

theorem Memory.wfFrom_weaken {lo lo' hi : Nat} {m : Memory} (h : lo' ≤ lo) (hm : m.wfFrom lo hi = true) :
    m.wfFrom lo' hi = true := by
  cases m with
  | nil => rfl
  | cons c rest =>
    obtain ⟨x, v⟩ := c
    simp only [Memory.wfFrom, Bool.and_eq_true, decide_eq_true_eq] at hm ⊢
    exact ⟨⟨⟨by omega, hm.1.1.2⟩, hm.1.2⟩, hm.2⟩

/-- An index below every listed one reads as unlisted. -/
theorem Memory.read_below {lo hi : Nat} {m : Memory} {a : Nat} (hm : m.wfFrom lo hi = true) (ha : a < lo) :
    m.read a = Memory.unlisted := by
  induction m generalizing lo with
  | nil => rfl
  | cons c rest ih =>
    obtain ⟨x, v⟩ := c
    simp only [Memory.wfFrom, Bool.and_eq_true, decide_eq_true_eq] at hm
    have hx : x ≠ a := by omega
    simpa only [Memory.read, if_neg hx] using ih hm.2 (by omega)

/-- A write keeps the canonical form. -/
theorem Memory.write_wfFrom {lo hi : Nat} {m : Memory} {a : Nat} {v : Byte} (hm : m.wfFrom lo hi = true)
    (hlo : lo ≤ a) (hhi : a < hi) : (m.write a v).wfFrom lo hi = true := by
  induction m generalizing lo with
  | nil =>
    by_cases hv : v = Memory.unlisted <;> simp [Memory.write, Memory.wfFrom, hv, hlo, hhi]
  | cons c rest ih =>
    obtain ⟨x, w⟩ := c
    have hm' := hm
    simp only [Memory.wfFrom, Bool.and_eq_true, decide_eq_true_eq] at hm
    obtain ⟨⟨⟨h1, h2⟩, h3⟩, h4⟩ := hm
    by_cases hax : a < x
    · by_cases hv : v = Memory.unlisted
      · simpa [Memory.write, hax, hv] using hm'
      · simp [Memory.write, hax, hv, Memory.wfFrom, hlo, hhi, h2, h3, h4, Nat.succ_le_of_lt hax]
    · by_cases he : a = x
      · by_cases hv : v = Memory.unlisted
        · simpa [Memory.write, he, hv] using Memory.wfFrom_weaken (by omega) h4
        · subst he
          simp [Memory.write, hv, Memory.wfFrom, hlo, hhi, h4]
      · have := ih (lo := x + 1) h4 (by omega)
        simp [Memory.write, hax, he, Memory.wfFrom, h1, h2, h3, this]

/-- A write changes the byte at its index and no other. -/
theorem Memory.read_write {lo hi : Nat} {m : Memory} (a b : Nat) (v : Byte) (hm : m.wfFrom lo hi = true) :
    (m.write a v).read b = if b = a then v else m.read b := by
  induction m generalizing lo with
  | nil =>
    by_cases hb : b = a
    · by_cases hv : v = Memory.unlisted <;> simp [Memory.write, Memory.read, hv, hb]
    · by_cases hv : v = Memory.unlisted <;> simp [Memory.write, Memory.read, hv, hb, Ne.symm hb]
  | cons c rest ih =>
    obtain ⟨x, w⟩ := c
    simp only [Memory.wfFrom, Bool.and_eq_true, decide_eq_true_eq] at hm
    obtain ⟨⟨⟨h1, h2⟩, h3⟩, h4⟩ := hm
    by_cases hax : a < x
    · by_cases hv : v = Memory.unlisted
      · by_cases hb : b = a
        · have hne : x ≠ a := by omega
          simp [Memory.write, hax, hv, hb, Memory.read, hne, Memory.read_below h4 (by omega : a < x + 1)]
        · simp [Memory.write, hax, hv, hb]
      · by_cases hb : b = a
        · simp [Memory.write, hax, hv, hb, Memory.read]
        · simp [Memory.write, hax, hv, hb, Memory.read, Ne.symm hb]
    · by_cases he : a = x
      · subst he
        by_cases hv : v = Memory.unlisted
        · by_cases hb : b = a
          · simp [Memory.write, hv, hb, Memory.read_below h4 (by omega : a < a + 1)]
          · simp [Memory.write, hv, hb, Memory.read, Ne.symm hb]
        · by_cases hb : b = a
          · simp [Memory.write, hv, hb, Memory.read]
          · simp [Memory.write, hv, hb, Memory.read, Ne.symm hb]
      · by_cases hx : x = b
        · subst hx
          simp [Memory.write, hax, he, Memory.read, Ne.symm he]
        · simp [Memory.write, hax, he, Memory.read, hx, ih h4]

theorem Memory.write_wf {size : Nat} {m : Memory} {a : Nat} {v : Byte} (hm : m.wf size = true) (ha : a < size) :
    (m.write a v).wf size = true := Memory.write_wfFrom hm (Nat.zero_le a) ha

theorem Memory.writeBytes_wf {size : Nat} {m : Memory} {a : Nat} {bytes : List Byte} (hm : m.wf size = true)
    (ha : a + bytes.length ≤ size) : (m.writeBytes a bytes).wf size = true := by
  induction bytes generalizing m a with
  | nil => exact hm
  | cons b rest ih =>
    simp only [List.length_cons] at ha
    exact ih (Memory.write_wf hm (by omega)) (by omega)

/-- Writing consecutive bytes changes them and nothing else (R67). -/
theorem Memory.read_writeBytes {size : Nat} {m : Memory} {a : Nat} {bytes : List Byte} (b : Nat)
    (hm : m.wf size = true) (ha : a + bytes.length ≤ size) :
    (m.writeBytes a bytes).read b =
      if a ≤ b ∧ b < a + bytes.length then bytes.getD (b - a) Memory.unlisted else m.read b := by
  induction bytes generalizing m a with
  | nil =>
    have : ¬(a ≤ b ∧ b < a + ([] : List Byte).length) := by simp
    simp only [Memory.writeBytes, if_neg this]
  | cons x rest ih =>
    simp only [List.length_cons] at ha
    rw [Memory.writeBytes, ih (Memory.write_wf hm (by omega)) (by omega), Memory.read_write a b x hm]
    by_cases h1 : b = a
    · subst h1
      simp
    · by_cases h2 : a + 1 ≤ b ∧ b < a + 1 + rest.length
      · have h3 : a ≤ b ∧ b < a + (rest.length + 1) := by omega
        have h4 : b - a = b - (a + 1) + 1 := by omega
        simp [h2, h3, h4]
      · have h3 : ¬(a ≤ b ∧ b < a + (rest.length + 1)) := by omega
        simp only [if_neg h2, List.length_cons, if_neg h3, if_neg h1]

theorem Memory.readBytes_length (m : Memory) (a n : Nat) : (m.readBytes a n).length = n := by
  induction n generalizing a with
  | zero => rfl
  | succ k ih => simp [Memory.readBytes, ih]

/-- Two buffers that agree on a range read alike there. -/
theorem Memory.readBytes_congr {m m' : Memory} {a n : Nat} (h : ∀ b, a ≤ b → b < a + n → m.read b = m'.read b) :
    m.readBytes a n = m'.readBytes a n := by
  induction n generalizing a with
  | zero => rfl
  | succ k ih =>
    simp only [Memory.readBytes]
    rw [h a (le_refl a) (by omega), ih (fun b h1 h2 => h b (by omega) (by omega))]

/-- What was written is read back (R67, R198: "verbatim"). -/
theorem Memory.readBytes_writeBytes {size : Nat} {m : Memory} {a : Nat} {bytes : List Byte} (hm : m.wf size = true)
    (ha : a + bytes.length ≤ size) : (m.writeBytes a bytes).readBytes a bytes.length = bytes := by
  induction bytes generalizing m a with
  | nil => rfl
  | cons x rest ih =>
    simp only [List.length_cons] at ha
    have hw := Memory.write_wf (v := x) hm (by omega : a < size)
    have h0 : (m.writeBytes a (x :: rest)).read a = x := by
      rw [Memory.read_writeBytes a hm (by simpa using ha)]
      simp
    simp only [List.length_cons, Memory.readBytes, h0]
    simp only [Memory.writeBytes, ih hw (by omega : a + 1 + rest.length ≤ size)]

end Sys2Proof.Machine
end

