-- ==== Sys2Proof/Laws/State.lean ====
section
/-! SUPPORT. One lemma for each field and each update of State: what the update leaves in the field. -/

namespace Sys2Proof.Machine

/-! ### emit -/

@[simp] theorem emit_cfg (p : List Byte) (s : State) : (emit p s).cfg = s.cfg := rfl
@[simp] theorem emit_opened (p : List Byte) (s : State) : (emit p s).opened = s.opened := rfl
@[simp] theorem emit_conn (p : List Byte) (s : State) : (emit p s).conn = s.conn := rfl
@[simp] theorem emit_active (p : List Byte) (s : State) : (emit p s).active = s.active := rfl
@[simp] theorem emit_snSent (p : List Byte) (s : State) : (emit p s).snSent = s.snSent := rfl
@[simp] theorem emit_snReceived (p : List Byte) (s : State) : (emit p s).snReceived = s.snReceived := rfl
@[simp] theorem emit_status (p : List Byte) (s : State) : (emit p s).status = s.status := rfl
@[simp] theorem emit_rtxValid (p : List Byte) (s : State) : (emit p s).rtxValid = s.rtxValid := rfl
@[simp] theorem emit_rtxLen (p : List Byte) (s : State) : (emit p s).rtxLen = s.rtxLen := rfl
@[simp] theorem emit_rtxBuf (p : List Byte) (s : State) : (emit p s).rtxBuf = s.rtxBuf := rfl
@[simp] theorem emit_rtxTs (p : List Byte) (s : State) : (emit p s).rtxTs = s.rtxTs := rfl
@[simp] theorem emit_retry (p : List Byte) (s : State) : (emit p s).retry = s.retry := rfl
@[simp] theorem emit_maxRetries (p : List Byte) (s : State) : (emit p s).maxRetries = s.maxRetries := rfl
@[simp] theorem emit_srtt (p : List Byte) (s : State) : (emit p s).srtt = s.srtt := rfl
@[simp] theorem emit_rto (p : List Byte) (s : State) : (emit p s).rto = s.rto := rfl
@[simp] theorem emit_twTs (p : List Byte) (s : State) : (emit p s).twTs = s.twTs := rfl
@[simp] theorem emit_curValid (p : List Byte) (s : State) : (emit p s).curValid = s.curValid := rfl
@[simp] theorem emit_curTag (p : List Byte) (s : State) : (emit p s).curTag = s.curTag := rfl
@[simp] theorem emit_txq (p : List Byte) (s : State) : (emit p s).txq = s.txq := rfl
@[simp] theorem emit_rxq (p : List Byte) (s : State) : (emit p s).rxq = s.rxq := rfl
@[simp] theorem emit_rxPhase (p : List Byte) (s : State) : (emit p s).rxPhase = s.rxPhase := rfl
@[simp] theorem emit_rxCtl (p : List Byte) (s : State) : (emit p s).rxCtl = s.rxCtl := rfl
@[simp] theorem emit_rxLen (p : List Byte) (s : State) : (emit p s).rxLen = s.rxLen := rfl
@[simp] theorem emit_rxPay (p : List Byte) (s : State) : (emit p s).rxPay = s.rxPay := rfl
@[simp] theorem emit_rxCnt (p : List Byte) (s : State) : (emit p s).rxCnt = s.rxCnt := rfl
@[simp] theorem emit_rxCrcHi (p : List Byte) (s : State) : (emit p s).rxCrcHi = s.rxCrcHi := rfl
@[simp] theorem emit_rxTs (p : List Byte) (s : State) : (emit p s).rxTs = s.rxTs := rfl
@[simp] theorem emit_busy (p : List Byte) (s : State) : (emit p s).busy = s.busy := rfl
@[simp] theorem emit_inbox (p : List Byte) (s : State) : (emit p s).inbox = s.inbox := rfl
@[simp] theorem emit_outs (p : List Byte) (s : State) : (emit p s).outs = s.outs ++ [.tx p] := rfl

/-! ### complete -/

@[simp] theorem complete_cfg (tag : Tag) (code : Code) (s : State) : (complete tag code s).cfg = s.cfg := rfl
@[simp] theorem complete_opened (tag : Tag) (code : Code) (s : State) : (complete tag code s).opened = s.opened := rfl
@[simp] theorem complete_conn (tag : Tag) (code : Code) (s : State) : (complete tag code s).conn = s.conn := rfl
@[simp] theorem complete_active (tag : Tag) (code : Code) (s : State) : (complete tag code s).active = s.active := rfl
@[simp] theorem complete_snSent (tag : Tag) (code : Code) (s : State) : (complete tag code s).snSent = s.snSent := rfl
@[simp] theorem complete_snReceived (tag : Tag) (code : Code) (s : State) : (complete tag code s).snReceived = s.snReceived := rfl
@[simp] theorem complete_status (tag : Tag) (code : Code) (s : State) : (complete tag code s).status = s.status := rfl
@[simp] theorem complete_rtxValid (tag : Tag) (code : Code) (s : State) : (complete tag code s).rtxValid = s.rtxValid := rfl
@[simp] theorem complete_rtxLen (tag : Tag) (code : Code) (s : State) : (complete tag code s).rtxLen = s.rtxLen := rfl
@[simp] theorem complete_rtxBuf (tag : Tag) (code : Code) (s : State) : (complete tag code s).rtxBuf = s.rtxBuf := rfl
@[simp] theorem complete_rtxTs (tag : Tag) (code : Code) (s : State) : (complete tag code s).rtxTs = s.rtxTs := rfl
@[simp] theorem complete_retry (tag : Tag) (code : Code) (s : State) : (complete tag code s).retry = s.retry := rfl
@[simp] theorem complete_maxRetries (tag : Tag) (code : Code) (s : State) : (complete tag code s).maxRetries = s.maxRetries := rfl
@[simp] theorem complete_srtt (tag : Tag) (code : Code) (s : State) : (complete tag code s).srtt = s.srtt := rfl
@[simp] theorem complete_rto (tag : Tag) (code : Code) (s : State) : (complete tag code s).rto = s.rto := rfl
@[simp] theorem complete_twTs (tag : Tag) (code : Code) (s : State) : (complete tag code s).twTs = s.twTs := rfl
@[simp] theorem complete_curValid (tag : Tag) (code : Code) (s : State) : (complete tag code s).curValid = s.curValid := rfl
@[simp] theorem complete_curTag (tag : Tag) (code : Code) (s : State) : (complete tag code s).curTag = s.curTag := rfl
@[simp] theorem complete_txq (tag : Tag) (code : Code) (s : State) : (complete tag code s).txq = s.txq := rfl
@[simp] theorem complete_rxq (tag : Tag) (code : Code) (s : State) : (complete tag code s).rxq = s.rxq := rfl
@[simp] theorem complete_rxPhase (tag : Tag) (code : Code) (s : State) : (complete tag code s).rxPhase = s.rxPhase := rfl
@[simp] theorem complete_rxCtl (tag : Tag) (code : Code) (s : State) : (complete tag code s).rxCtl = s.rxCtl := rfl
@[simp] theorem complete_rxLen (tag : Tag) (code : Code) (s : State) : (complete tag code s).rxLen = s.rxLen := rfl
@[simp] theorem complete_rxPay (tag : Tag) (code : Code) (s : State) : (complete tag code s).rxPay = s.rxPay := rfl
@[simp] theorem complete_rxCnt (tag : Tag) (code : Code) (s : State) : (complete tag code s).rxCnt = s.rxCnt := rfl
@[simp] theorem complete_rxCrcHi (tag : Tag) (code : Code) (s : State) : (complete tag code s).rxCrcHi = s.rxCrcHi := rfl
@[simp] theorem complete_rxTs (tag : Tag) (code : Code) (s : State) : (complete tag code s).rxTs = s.rxTs := rfl
@[simp] theorem complete_busy (tag : Tag) (code : Code) (s : State) : (complete tag code s).busy = s.busy := rfl
@[simp] theorem complete_inbox (tag : Tag) (code : Code) (s : State) : (complete tag code s).inbox = s.inbox := rfl
@[simp] theorem complete_outs (tag : Tag) (code : Code) (s : State) : (complete tag code s).outs = s.outs ++ [.complete tag code] := rfl

/-! ### respond -/

@[simp] theorem respond_cfg (code : Code) (e : Option RxEntry) (s : State) : (respond code e s).cfg = s.cfg := rfl
@[simp] theorem respond_opened (code : Code) (e : Option RxEntry) (s : State) : (respond code e s).opened = s.opened := rfl
@[simp] theorem respond_conn (code : Code) (e : Option RxEntry) (s : State) : (respond code e s).conn = s.conn := rfl
@[simp] theorem respond_active (code : Code) (e : Option RxEntry) (s : State) : (respond code e s).active = s.active := rfl
@[simp] theorem respond_snSent (code : Code) (e : Option RxEntry) (s : State) : (respond code e s).snSent = s.snSent := rfl
@[simp] theorem respond_snReceived (code : Code) (e : Option RxEntry) (s : State) : (respond code e s).snReceived = s.snReceived := rfl
@[simp] theorem respond_status (code : Code) (e : Option RxEntry) (s : State) : (respond code e s).status = s.status := rfl
@[simp] theorem respond_rtxValid (code : Code) (e : Option RxEntry) (s : State) : (respond code e s).rtxValid = s.rtxValid := rfl
@[simp] theorem respond_rtxLen (code : Code) (e : Option RxEntry) (s : State) : (respond code e s).rtxLen = s.rtxLen := rfl
@[simp] theorem respond_rtxBuf (code : Code) (e : Option RxEntry) (s : State) : (respond code e s).rtxBuf = s.rtxBuf := rfl
@[simp] theorem respond_rtxTs (code : Code) (e : Option RxEntry) (s : State) : (respond code e s).rtxTs = s.rtxTs := rfl
@[simp] theorem respond_retry (code : Code) (e : Option RxEntry) (s : State) : (respond code e s).retry = s.retry := rfl
@[simp] theorem respond_maxRetries (code : Code) (e : Option RxEntry) (s : State) : (respond code e s).maxRetries = s.maxRetries := rfl
@[simp] theorem respond_srtt (code : Code) (e : Option RxEntry) (s : State) : (respond code e s).srtt = s.srtt := rfl
@[simp] theorem respond_rto (code : Code) (e : Option RxEntry) (s : State) : (respond code e s).rto = s.rto := rfl
@[simp] theorem respond_twTs (code : Code) (e : Option RxEntry) (s : State) : (respond code e s).twTs = s.twTs := rfl
@[simp] theorem respond_curValid (code : Code) (e : Option RxEntry) (s : State) : (respond code e s).curValid = s.curValid := rfl
@[simp] theorem respond_curTag (code : Code) (e : Option RxEntry) (s : State) : (respond code e s).curTag = s.curTag := rfl
@[simp] theorem respond_txq (code : Code) (e : Option RxEntry) (s : State) : (respond code e s).txq = s.txq := rfl
@[simp] theorem respond_rxq (code : Code) (e : Option RxEntry) (s : State) : (respond code e s).rxq = s.rxq := rfl
@[simp] theorem respond_rxPhase (code : Code) (e : Option RxEntry) (s : State) : (respond code e s).rxPhase = s.rxPhase := rfl
@[simp] theorem respond_rxCtl (code : Code) (e : Option RxEntry) (s : State) : (respond code e s).rxCtl = s.rxCtl := rfl
@[simp] theorem respond_rxLen (code : Code) (e : Option RxEntry) (s : State) : (respond code e s).rxLen = s.rxLen := rfl
@[simp] theorem respond_rxPay (code : Code) (e : Option RxEntry) (s : State) : (respond code e s).rxPay = s.rxPay := rfl
@[simp] theorem respond_rxCnt (code : Code) (e : Option RxEntry) (s : State) : (respond code e s).rxCnt = s.rxCnt := rfl
@[simp] theorem respond_rxCrcHi (code : Code) (e : Option RxEntry) (s : State) : (respond code e s).rxCrcHi = s.rxCrcHi := rfl
@[simp] theorem respond_rxTs (code : Code) (e : Option RxEntry) (s : State) : (respond code e s).rxTs = s.rxTs := rfl
@[simp] theorem respond_busy (code : Code) (e : Option RxEntry) (s : State) : (respond code e s).busy = s.busy := rfl
@[simp] theorem respond_inbox (code : Code) (e : Option RxEntry) (s : State) : (respond code e s).inbox = s.inbox := rfl
@[simp] theorem respond_outs (code : Code) (e : Option RxEntry) (s : State) : (respond code e s).outs = s.outs ++ [.respond code e] := rfl

/-! ### loadSlot -/

@[simp] theorem loadSlot_cfg (p : List Byte) (now : Time) (s : State) : (loadSlot p now s).cfg = s.cfg := rfl
@[simp] theorem loadSlot_opened (p : List Byte) (now : Time) (s : State) : (loadSlot p now s).opened = s.opened := rfl
@[simp] theorem loadSlot_conn (p : List Byte) (now : Time) (s : State) : (loadSlot p now s).conn = s.conn := rfl
@[simp] theorem loadSlot_active (p : List Byte) (now : Time) (s : State) : (loadSlot p now s).active = s.active := rfl
@[simp] theorem loadSlot_snSent (p : List Byte) (now : Time) (s : State) : (loadSlot p now s).snSent = s.snSent := rfl
@[simp] theorem loadSlot_snReceived (p : List Byte) (now : Time) (s : State) : (loadSlot p now s).snReceived = s.snReceived := rfl
@[simp] theorem loadSlot_status (p : List Byte) (now : Time) (s : State) : (loadSlot p now s).status = s.status := rfl
@[simp] theorem loadSlot_rtxValid (p : List Byte) (now : Time) (s : State) : (loadSlot p now s).rtxValid = true := rfl
@[simp] theorem loadSlot_rtxLen (p : List Byte) (now : Time) (s : State) : (loadSlot p now s).rtxLen = p.length := rfl
@[simp] theorem loadSlot_rtxBuf (p : List Byte) (now : Time) (s : State) : (loadSlot p now s).rtxBuf = s.rtxBuf.writeBytes 0 p := rfl
@[simp] theorem loadSlot_rtxTs (p : List Byte) (now : Time) (s : State) : (loadSlot p now s).rtxTs = now := rfl
@[simp] theorem loadSlot_retry (p : List Byte) (now : Time) (s : State) : (loadSlot p now s).retry = 0 := rfl
@[simp] theorem loadSlot_maxRetries (p : List Byte) (now : Time) (s : State) : (loadSlot p now s).maxRetries = s.maxRetries := rfl
@[simp] theorem loadSlot_srtt (p : List Byte) (now : Time) (s : State) : (loadSlot p now s).srtt = s.srtt := rfl
@[simp] theorem loadSlot_rto (p : List Byte) (now : Time) (s : State) : (loadSlot p now s).rto = s.rto := rfl
@[simp] theorem loadSlot_twTs (p : List Byte) (now : Time) (s : State) : (loadSlot p now s).twTs = s.twTs := rfl
@[simp] theorem loadSlot_curValid (p : List Byte) (now : Time) (s : State) : (loadSlot p now s).curValid = s.curValid := rfl
@[simp] theorem loadSlot_curTag (p : List Byte) (now : Time) (s : State) : (loadSlot p now s).curTag = s.curTag := rfl
@[simp] theorem loadSlot_txq (p : List Byte) (now : Time) (s : State) : (loadSlot p now s).txq = s.txq := rfl
@[simp] theorem loadSlot_rxq (p : List Byte) (now : Time) (s : State) : (loadSlot p now s).rxq = s.rxq := rfl
@[simp] theorem loadSlot_rxPhase (p : List Byte) (now : Time) (s : State) : (loadSlot p now s).rxPhase = s.rxPhase := rfl
@[simp] theorem loadSlot_rxCtl (p : List Byte) (now : Time) (s : State) : (loadSlot p now s).rxCtl = s.rxCtl := rfl
@[simp] theorem loadSlot_rxLen (p : List Byte) (now : Time) (s : State) : (loadSlot p now s).rxLen = s.rxLen := rfl
@[simp] theorem loadSlot_rxPay (p : List Byte) (now : Time) (s : State) : (loadSlot p now s).rxPay = s.rxPay := rfl
@[simp] theorem loadSlot_rxCnt (p : List Byte) (now : Time) (s : State) : (loadSlot p now s).rxCnt = s.rxCnt := rfl
@[simp] theorem loadSlot_rxCrcHi (p : List Byte) (now : Time) (s : State) : (loadSlot p now s).rxCrcHi = s.rxCrcHi := rfl
@[simp] theorem loadSlot_rxTs (p : List Byte) (now : Time) (s : State) : (loadSlot p now s).rxTs = s.rxTs := rfl
@[simp] theorem loadSlot_busy (p : List Byte) (now : Time) (s : State) : (loadSlot p now s).busy = s.busy := rfl
@[simp] theorem loadSlot_inbox (p : List Byte) (now : Time) (s : State) : (loadSlot p now s).inbox = s.inbox := rfl
@[simp] theorem loadSlot_outs (p : List Byte) (now : Time) (s : State) : (loadSlot p now s).outs = s.outs := rfl

/-! ### sampleRtt -/

@[simp] theorem sampleRtt_cfg (now : Time) (s : State) : (sampleRtt now s).cfg = s.cfg := rfl
@[simp] theorem sampleRtt_opened (now : Time) (s : State) : (sampleRtt now s).opened = s.opened := rfl
@[simp] theorem sampleRtt_conn (now : Time) (s : State) : (sampleRtt now s).conn = s.conn := rfl
@[simp] theorem sampleRtt_active (now : Time) (s : State) : (sampleRtt now s).active = s.active := rfl
@[simp] theorem sampleRtt_snSent (now : Time) (s : State) : (sampleRtt now s).snSent = s.snSent := rfl
@[simp] theorem sampleRtt_snReceived (now : Time) (s : State) : (sampleRtt now s).snReceived = s.snReceived := rfl
@[simp] theorem sampleRtt_status (now : Time) (s : State) : (sampleRtt now s).status = s.status := rfl
@[simp] theorem sampleRtt_rtxValid (now : Time) (s : State) : (sampleRtt now s).rtxValid = false := rfl
@[simp] theorem sampleRtt_rtxLen (now : Time) (s : State) : (sampleRtt now s).rtxLen = s.rtxLen := rfl
@[simp] theorem sampleRtt_rtxBuf (now : Time) (s : State) : (sampleRtt now s).rtxBuf = s.rtxBuf := rfl
@[simp] theorem sampleRtt_rtxTs (now : Time) (s : State) : (sampleRtt now s).rtxTs = s.rtxTs := rfl
@[simp] theorem sampleRtt_retry (now : Time) (s : State) : (sampleRtt now s).retry = 0 := rfl
@[simp] theorem sampleRtt_maxRetries (now : Time) (s : State) : (sampleRtt now s).maxRetries = s.maxRetries := rfl
@[simp] theorem sampleRtt_srtt (now : Time) (s : State) : (sampleRtt now s).srtt = srttNext s.srtt (since s s.rtxTs now) := rfl
@[simp] theorem sampleRtt_rto (now : Time) (s : State) : (sampleRtt now s).rto = rtoOf (srttNext s.srtt (since s s.rtxTs now)) := rfl
@[simp] theorem sampleRtt_twTs (now : Time) (s : State) : (sampleRtt now s).twTs = s.twTs := rfl
@[simp] theorem sampleRtt_curValid (now : Time) (s : State) : (sampleRtt now s).curValid = s.curValid := rfl
@[simp] theorem sampleRtt_curTag (now : Time) (s : State) : (sampleRtt now s).curTag = s.curTag := rfl
@[simp] theorem sampleRtt_txq (now : Time) (s : State) : (sampleRtt now s).txq = s.txq := rfl
@[simp] theorem sampleRtt_rxq (now : Time) (s : State) : (sampleRtt now s).rxq = s.rxq := rfl
@[simp] theorem sampleRtt_rxPhase (now : Time) (s : State) : (sampleRtt now s).rxPhase = s.rxPhase := rfl
@[simp] theorem sampleRtt_rxCtl (now : Time) (s : State) : (sampleRtt now s).rxCtl = s.rxCtl := rfl
@[simp] theorem sampleRtt_rxLen (now : Time) (s : State) : (sampleRtt now s).rxLen = s.rxLen := rfl
@[simp] theorem sampleRtt_rxPay (now : Time) (s : State) : (sampleRtt now s).rxPay = s.rxPay := rfl
@[simp] theorem sampleRtt_rxCnt (now : Time) (s : State) : (sampleRtt now s).rxCnt = s.rxCnt := rfl
@[simp] theorem sampleRtt_rxCrcHi (now : Time) (s : State) : (sampleRtt now s).rxCrcHi = s.rxCrcHi := rfl
@[simp] theorem sampleRtt_rxTs (now : Time) (s : State) : (sampleRtt now s).rxTs = s.rxTs := rfl
@[simp] theorem sampleRtt_busy (now : Time) (s : State) : (sampleRtt now s).busy = s.busy := rfl
@[simp] theorem sampleRtt_inbox (now : Time) (s : State) : (sampleRtt now s).inbox = s.inbox := rfl
@[simp] theorem sampleRtt_outs (now : Time) (s : State) : (sampleRtt now s).outs = s.outs := rfl

/-! ### resend -/

@[simp] theorem resend_cfg (now : Time) (s : State) : (resend now s).cfg = s.cfg := rfl
@[simp] theorem resend_opened (now : Time) (s : State) : (resend now s).opened = s.opened := rfl
@[simp] theorem resend_conn (now : Time) (s : State) : (resend now s).conn = s.conn := rfl
@[simp] theorem resend_active (now : Time) (s : State) : (resend now s).active = s.active := rfl
@[simp] theorem resend_snSent (now : Time) (s : State) : (resend now s).snSent = s.snSent := rfl
@[simp] theorem resend_snReceived (now : Time) (s : State) : (resend now s).snReceived = s.snReceived := rfl
@[simp] theorem resend_status (now : Time) (s : State) : (resend now s).status = s.status := rfl
@[simp] theorem resend_rtxValid (now : Time) (s : State) : (resend now s).rtxValid = s.rtxValid := rfl
@[simp] theorem resend_rtxLen (now : Time) (s : State) : (resend now s).rtxLen = s.rtxLen := rfl
@[simp] theorem resend_rtxBuf (now : Time) (s : State) : (resend now s).rtxBuf = s.rtxBuf := rfl
@[simp] theorem resend_rtxTs (now : Time) (s : State) : (resend now s).rtxTs = now := rfl
@[simp] theorem resend_retry (now : Time) (s : State) : (resend now s).retry = s.retry + 1 := rfl
@[simp] theorem resend_maxRetries (now : Time) (s : State) : (resend now s).maxRetries = s.maxRetries := rfl
@[simp] theorem resend_srtt (now : Time) (s : State) : (resend now s).srtt = s.srtt := rfl
@[simp] theorem resend_rto (now : Time) (s : State) : (resend now s).rto = s.rto := rfl
@[simp] theorem resend_twTs (now : Time) (s : State) : (resend now s).twTs = s.twTs := rfl
@[simp] theorem resend_curValid (now : Time) (s : State) : (resend now s).curValid = s.curValid := rfl
@[simp] theorem resend_curTag (now : Time) (s : State) : (resend now s).curTag = s.curTag := rfl
@[simp] theorem resend_txq (now : Time) (s : State) : (resend now s).txq = s.txq := rfl
@[simp] theorem resend_rxq (now : Time) (s : State) : (resend now s).rxq = s.rxq := rfl
@[simp] theorem resend_rxPhase (now : Time) (s : State) : (resend now s).rxPhase = s.rxPhase := rfl
@[simp] theorem resend_rxCtl (now : Time) (s : State) : (resend now s).rxCtl = s.rxCtl := rfl
@[simp] theorem resend_rxLen (now : Time) (s : State) : (resend now s).rxLen = s.rxLen := rfl
@[simp] theorem resend_rxPay (now : Time) (s : State) : (resend now s).rxPay = s.rxPay := rfl
@[simp] theorem resend_rxCnt (now : Time) (s : State) : (resend now s).rxCnt = s.rxCnt := rfl
@[simp] theorem resend_rxCrcHi (now : Time) (s : State) : (resend now s).rxCrcHi = s.rxCrcHi := rfl
@[simp] theorem resend_rxTs (now : Time) (s : State) : (resend now s).rxTs = s.rxTs := rfl
@[simp] theorem resend_busy (now : Time) (s : State) : (resend now s).busy = s.busy := rfl
@[simp] theorem resend_inbox (now : Time) (s : State) : (resend now s).inbox = s.inbox := rfl
@[simp] theorem resend_outs (now : Time) (s : State) : (resend now s).outs = s.outs ++ [.tx (slotPacket s)] := rfl

/-! ### settle: only the outstanding bit and the outputs -/

@[simp] theorem settle_cfg (code : Code) (s : State) : (settle code s).cfg = s.cfg := by
  unfold settle; split <;> rfl
@[simp] theorem settle_opened (code : Code) (s : State) : (settle code s).opened = s.opened := by
  unfold settle; split <;> rfl
@[simp] theorem settle_conn (code : Code) (s : State) : (settle code s).conn = s.conn := by
  unfold settle; split <;> rfl
@[simp] theorem settle_active (code : Code) (s : State) : (settle code s).active = s.active := by
  unfold settle; split <;> rfl
@[simp] theorem settle_snSent (code : Code) (s : State) : (settle code s).snSent = s.snSent := by
  unfold settle; split <;> rfl
@[simp] theorem settle_snReceived (code : Code) (s : State) : (settle code s).snReceived = s.snReceived := by
  unfold settle; split <;> rfl
@[simp] theorem settle_status (code : Code) (s : State) : (settle code s).status = s.status := by
  unfold settle; split <;> rfl
@[simp] theorem settle_rtxValid (code : Code) (s : State) : (settle code s).rtxValid = s.rtxValid := by
  unfold settle; split <;> rfl
@[simp] theorem settle_rtxLen (code : Code) (s : State) : (settle code s).rtxLen = s.rtxLen := by
  unfold settle; split <;> rfl
@[simp] theorem settle_rtxBuf (code : Code) (s : State) : (settle code s).rtxBuf = s.rtxBuf := by
  unfold settle; split <;> rfl
@[simp] theorem settle_rtxTs (code : Code) (s : State) : (settle code s).rtxTs = s.rtxTs := by
  unfold settle; split <;> rfl
@[simp] theorem settle_retry (code : Code) (s : State) : (settle code s).retry = s.retry := by
  unfold settle; split <;> rfl
@[simp] theorem settle_maxRetries (code : Code) (s : State) : (settle code s).maxRetries = s.maxRetries := by
  unfold settle; split <;> rfl
@[simp] theorem settle_srtt (code : Code) (s : State) : (settle code s).srtt = s.srtt := by
  unfold settle; split <;> rfl
@[simp] theorem settle_rto (code : Code) (s : State) : (settle code s).rto = s.rto := by
  unfold settle; split <;> rfl
@[simp] theorem settle_twTs (code : Code) (s : State) : (settle code s).twTs = s.twTs := by
  unfold settle; split <;> rfl
@[simp] theorem settle_curValid (code : Code) (s : State) : (settle code s).curValid = false := by
  unfold settle; split <;> simp_all
@[simp] theorem settle_curTag (code : Code) (s : State) : (settle code s).curTag = s.curTag := by
  unfold settle; split <;> rfl
@[simp] theorem settle_txq (code : Code) (s : State) : (settle code s).txq = s.txq := by
  unfold settle; split <;> rfl
@[simp] theorem settle_rxq (code : Code) (s : State) : (settle code s).rxq = s.rxq := by
  unfold settle; split <;> rfl
@[simp] theorem settle_rxPhase (code : Code) (s : State) : (settle code s).rxPhase = s.rxPhase := by
  unfold settle; split <;> rfl
@[simp] theorem settle_rxCtl (code : Code) (s : State) : (settle code s).rxCtl = s.rxCtl := by
  unfold settle; split <;> rfl
@[simp] theorem settle_rxLen (code : Code) (s : State) : (settle code s).rxLen = s.rxLen := by
  unfold settle; split <;> rfl
@[simp] theorem settle_rxPay (code : Code) (s : State) : (settle code s).rxPay = s.rxPay := by
  unfold settle; split <;> rfl
@[simp] theorem settle_rxCnt (code : Code) (s : State) : (settle code s).rxCnt = s.rxCnt := by
  unfold settle; split <;> rfl
@[simp] theorem settle_rxCrcHi (code : Code) (s : State) : (settle code s).rxCrcHi = s.rxCrcHi := by
  unfold settle; split <;> rfl
@[simp] theorem settle_rxTs (code : Code) (s : State) : (settle code s).rxTs = s.rxTs := by
  unfold settle; split <;> rfl
@[simp] theorem settle_busy (code : Code) (s : State) : (settle code s).busy = s.busy := by
  unfold settle; split <;> rfl
@[simp] theorem settle_inbox (code : Code) (s : State) : (settle code s).inbox = s.inbox := by
  unfold settle; split <;> rfl
@[simp] theorem settle_outs (code : Code) (s : State) :
    (settle code s).outs = if s.curValid then s.outs ++ [.complete s.curTag code] else s.outs := by
  unfold settle; split <;> rfl

/-! ### event: only the `busy` bit, beside what the event does -/

@[simp] theorem event_busy (f : State → State) (s : State) : (event f s).busy = false := rfl
@[simp] theorem event_cfg (f : State → State) (s : State) :
    (event f s).cfg = (f { s with busy := true }).cfg := rfl
@[simp] theorem event_opened (f : State → State) (s : State) :
    (event f s).opened = (f { s with busy := true }).opened := rfl
@[simp] theorem event_conn (f : State → State) (s : State) :
    (event f s).conn = (f { s with busy := true }).conn := rfl
@[simp] theorem event_active (f : State → State) (s : State) :
    (event f s).active = (f { s with busy := true }).active := rfl
@[simp] theorem event_snSent (f : State → State) (s : State) :
    (event f s).snSent = (f { s with busy := true }).snSent := rfl
@[simp] theorem event_snReceived (f : State → State) (s : State) :
    (event f s).snReceived = (f { s with busy := true }).snReceived := rfl
@[simp] theorem event_status (f : State → State) (s : State) :
    (event f s).status = (f { s with busy := true }).status := rfl
@[simp] theorem event_rtxValid (f : State → State) (s : State) :
    (event f s).rtxValid = (f { s with busy := true }).rtxValid := rfl
@[simp] theorem event_rtxLen (f : State → State) (s : State) :
    (event f s).rtxLen = (f { s with busy := true }).rtxLen := rfl
@[simp] theorem event_rtxBuf (f : State → State) (s : State) :
    (event f s).rtxBuf = (f { s with busy := true }).rtxBuf := rfl
@[simp] theorem event_rtxTs (f : State → State) (s : State) :
    (event f s).rtxTs = (f { s with busy := true }).rtxTs := rfl
@[simp] theorem event_retry (f : State → State) (s : State) :
    (event f s).retry = (f { s with busy := true }).retry := rfl
@[simp] theorem event_maxRetries (f : State → State) (s : State) :
    (event f s).maxRetries = (f { s with busy := true }).maxRetries := rfl
@[simp] theorem event_srtt (f : State → State) (s : State) :
    (event f s).srtt = (f { s with busy := true }).srtt := rfl
@[simp] theorem event_rto (f : State → State) (s : State) :
    (event f s).rto = (f { s with busy := true }).rto := rfl
@[simp] theorem event_twTs (f : State → State) (s : State) :
    (event f s).twTs = (f { s with busy := true }).twTs := rfl
@[simp] theorem event_curValid (f : State → State) (s : State) :
    (event f s).curValid = (f { s with busy := true }).curValid := rfl
@[simp] theorem event_curTag (f : State → State) (s : State) :
    (event f s).curTag = (f { s with busy := true }).curTag := rfl
@[simp] theorem event_txq (f : State → State) (s : State) :
    (event f s).txq = (f { s with busy := true }).txq := rfl
@[simp] theorem event_rxq (f : State → State) (s : State) :
    (event f s).rxq = (f { s with busy := true }).rxq := rfl
@[simp] theorem event_rxPhase (f : State → State) (s : State) :
    (event f s).rxPhase = (f { s with busy := true }).rxPhase := rfl
@[simp] theorem event_rxCtl (f : State → State) (s : State) :
    (event f s).rxCtl = (f { s with busy := true }).rxCtl := rfl
@[simp] theorem event_rxLen (f : State → State) (s : State) :
    (event f s).rxLen = (f { s with busy := true }).rxLen := rfl
@[simp] theorem event_rxPay (f : State → State) (s : State) :
    (event f s).rxPay = (f { s with busy := true }).rxPay := rfl
@[simp] theorem event_rxCnt (f : State → State) (s : State) :
    (event f s).rxCnt = (f { s with busy := true }).rxCnt := rfl
@[simp] theorem event_rxCrcHi (f : State → State) (s : State) :
    (event f s).rxCrcHi = (f { s with busy := true }).rxCrcHi := rfl
@[simp] theorem event_rxTs (f : State → State) (s : State) :
    (event f s).rxTs = (f { s with busy := true }).rxTs := rfl
@[simp] theorem event_inbox (f : State → State) (s : State) :
    (event f s).inbox = (f { s with busy := true }).inbox := rfl
@[simp] theorem event_outs (f : State → State) (s : State) :
    (event f s).outs = (f { s with busy := true }).outs := rfl

end Sys2Proof.Machine
end

