-- ==== Sys2Proof/Laws/Ops.lean ====
section
/-! SUPPORT. What each shared operation can do, said once: equations for the sending operations, and what they leave
unchanged. -/

namespace Sys2Proof.Machine

/-! ### The codec -/

/-- `make_header` always validates (R112 (1)). -/
@[simp] theorem headerOk_headerChecksum (c l : Byte) : headerOk c l (headerChecksum c l) = true := by
  have h : ∀ x : Byte, x + (x ^^^ 0xFF) = 0xFF := by decide
  simpa [headerOk, headerChecksum] using h (c + l)

@[simp] theorem retransmittable_makeHeader (c l : Byte) :
    retransmittable (makeHeader c l) = (hasData c l || (c &&& 0xB0) != 0) := rfl

@[simp] theorem makeHeader_length (c l : Byte) : (makeHeader c l).length = 4 := rfl

theorem join16_hi_lo (v : BitVec 16) : join16 (hi16 v) (lo16 v) = v := by
  unfold join16 hi16 lo16
  ext i hi
  simp only [BitVec.getElem_append, BitVec.getElem_extractLsb']
  split
  · simp [BitVec.getLsbD_eq_getElem hi]
  · have : 8 + (i - 8) = i := by omega
    simp [this, BitVec.getLsbD_eq_getElem hi]

theorem join32_bytes32 (v : BitVec 32) :
    join32 (v.extractLsb' 24 8) (v.extractLsb' 16 8) (v.extractLsb' 8 8) (v.extractLsb' 0 8) = v := by
  unfold join32
  ext i hi
  simp only [BitVec.getElem_append, BitVec.getElem_extractLsb']
  split
  · simp [BitVec.getLsbD_eq_getElem hi]
  · split
    · have : 8 + (i - 8) = i := by omega
      simp [this, BitVec.getLsbD_eq_getElem hi]
    · split
      · have : 16 + (i - 8 - 8) = i := by omega
        simp [this, BitVec.getLsbD_eq_getElem hi]
      · have : 24 + (i - 8 - 8 - 8) = i := by omega
        simp [this, BitVec.getLsbD_eq_getElem hi]

/-! ### Sending -/

/-- A packet that is not retransmittable is emitted and nothing else (R193). -/
theorem sendSeg_plain {p : List Byte} (h : retransmittable p = false) (now : Time) (own : Bool) (s : State) :
    sendSeg p now own s = emit p s := by
  simp [sendSeg, h]

/-- A retransmittable packet that is not a dispatched fragment displaces the outstanding one and enters the slot (R191,
R205). -/
theorem sendSeg_slot {p : List Byte} (h : retransmittable p = true) (now : Time) (s : State) :
    sendSeg p now false s = loadSlot p now (settle .connectionReset (emit p s)) := by
  simp [sendSeg, h]

/-- A dispatched fragment enters the slot and stays outstanding (R191, R200). -/
theorem sendSeg_own {p : List Byte} (h : retransmittable p = true) (now : Time) (s : State) :
    sendSeg p now true s = loadSlot p now (emit p s) := by
  simp [sendSeg, h]

/-- A bare ACK leaves everything but the output as it is (R193). -/
theorem ackReply_eq (p : Pkt) (now : Time) (s : State) :
    ackReply p now s = emit (makeHeader (mkCtl 0x40 (rsn p) (!pktSn p)) 0) s := by
  apply sendSeg_plain
  rw [retransmittable_makeHeader]
  cases rsn p <;> cases pktSn p <;> decide

/-- A reset reply enters the slot (R143, R284). -/
theorem rstReply_eq (p : Pkt) (now : Time) (s : State) :
    rstReply p now s =
      loadSlot (makeHeader (mkCtl 0x10 (rsn p) false) 0) now
        (settle .connectionReset (emit (makeHeader (mkCtl 0x10 (rsn p) false) 0) s)) := by
  apply sendSeg_slot
  rw [retransmittable_makeHeader]
  cases rsn p <;> decide

/-! ### sendSeg: what it leaves unchanged -/

@[simp] theorem sendSeg_cfg (p : List Byte) (now : Time) (own : Bool) (s : State) : (sendSeg p now own s).cfg = s.cfg := by unfold sendSeg; split <;> (try split) <;> simp
@[simp] theorem sendSeg_opened (p : List Byte) (now : Time) (own : Bool) (s : State) : (sendSeg p now own s).opened = s.opened := by unfold sendSeg; split <;> (try split) <;> simp
@[simp] theorem sendSeg_conn (p : List Byte) (now : Time) (own : Bool) (s : State) : (sendSeg p now own s).conn = s.conn := by unfold sendSeg; split <;> (try split) <;> simp
@[simp] theorem sendSeg_active (p : List Byte) (now : Time) (own : Bool) (s : State) : (sendSeg p now own s).active = s.active := by unfold sendSeg; split <;> (try split) <;> simp
@[simp] theorem sendSeg_snSent (p : List Byte) (now : Time) (own : Bool) (s : State) : (sendSeg p now own s).snSent = s.snSent := by unfold sendSeg; split <;> (try split) <;> simp
@[simp] theorem sendSeg_snReceived (p : List Byte) (now : Time) (own : Bool) (s : State) : (sendSeg p now own s).snReceived = s.snReceived := by unfold sendSeg; split <;> (try split) <;> simp
@[simp] theorem sendSeg_status (p : List Byte) (now : Time) (own : Bool) (s : State) : (sendSeg p now own s).status = s.status := by unfold sendSeg; split <;> (try split) <;> simp
@[simp] theorem sendSeg_maxRetries (p : List Byte) (now : Time) (own : Bool) (s : State) : (sendSeg p now own s).maxRetries = s.maxRetries := by unfold sendSeg; split <;> (try split) <;> simp
@[simp] theorem sendSeg_srtt (p : List Byte) (now : Time) (own : Bool) (s : State) : (sendSeg p now own s).srtt = s.srtt := by unfold sendSeg; split <;> (try split) <;> simp
@[simp] theorem sendSeg_rto (p : List Byte) (now : Time) (own : Bool) (s : State) : (sendSeg p now own s).rto = s.rto := by unfold sendSeg; split <;> (try split) <;> simp
@[simp] theorem sendSeg_twTs (p : List Byte) (now : Time) (own : Bool) (s : State) : (sendSeg p now own s).twTs = s.twTs := by unfold sendSeg; split <;> (try split) <;> simp
@[simp] theorem sendSeg_curTag (p : List Byte) (now : Time) (own : Bool) (s : State) : (sendSeg p now own s).curTag = s.curTag := by unfold sendSeg; split <;> (try split) <;> simp
@[simp] theorem sendSeg_txq (p : List Byte) (now : Time) (own : Bool) (s : State) : (sendSeg p now own s).txq = s.txq := by unfold sendSeg; split <;> (try split) <;> simp
@[simp] theorem sendSeg_rxq (p : List Byte) (now : Time) (own : Bool) (s : State) : (sendSeg p now own s).rxq = s.rxq := by unfold sendSeg; split <;> (try split) <;> simp
@[simp] theorem sendSeg_rxPhase (p : List Byte) (now : Time) (own : Bool) (s : State) : (sendSeg p now own s).rxPhase = s.rxPhase := by unfold sendSeg; split <;> (try split) <;> simp
@[simp] theorem sendSeg_rxCtl (p : List Byte) (now : Time) (own : Bool) (s : State) : (sendSeg p now own s).rxCtl = s.rxCtl := by unfold sendSeg; split <;> (try split) <;> simp
@[simp] theorem sendSeg_rxLen (p : List Byte) (now : Time) (own : Bool) (s : State) : (sendSeg p now own s).rxLen = s.rxLen := by unfold sendSeg; split <;> (try split) <;> simp
@[simp] theorem sendSeg_rxPay (p : List Byte) (now : Time) (own : Bool) (s : State) : (sendSeg p now own s).rxPay = s.rxPay := by unfold sendSeg; split <;> (try split) <;> simp
@[simp] theorem sendSeg_rxCnt (p : List Byte) (now : Time) (own : Bool) (s : State) : (sendSeg p now own s).rxCnt = s.rxCnt := by unfold sendSeg; split <;> (try split) <;> simp
@[simp] theorem sendSeg_rxCrcHi (p : List Byte) (now : Time) (own : Bool) (s : State) : (sendSeg p now own s).rxCrcHi = s.rxCrcHi := by unfold sendSeg; split <;> (try split) <;> simp
@[simp] theorem sendSeg_rxTs (p : List Byte) (now : Time) (own : Bool) (s : State) : (sendSeg p now own s).rxTs = s.rxTs := by unfold sendSeg; split <;> (try split) <;> simp
@[simp] theorem sendSeg_busy (p : List Byte) (now : Time) (own : Bool) (s : State) : (sendSeg p now own s).busy = s.busy := by unfold sendSeg; split <;> (try split) <;> simp
@[simp] theorem sendSeg_inbox (p : List Byte) (now : Time) (own : Bool) (s : State) : (sendSeg p now own s).inbox = s.inbox := by unfold sendSeg; split <;> (try split) <;> simp

/-! ### ackAccepted: what it leaves unchanged -/

@[simp] theorem ackAccepted_cfg (now : Time) (s : State) : (ackAccepted now s).cfg = s.cfg := by unfold ackAccepted; split <;> simp
@[simp] theorem ackAccepted_opened (now : Time) (s : State) : (ackAccepted now s).opened = s.opened := by unfold ackAccepted; split <;> simp
@[simp] theorem ackAccepted_conn (now : Time) (s : State) : (ackAccepted now s).conn = s.conn := by unfold ackAccepted; split <;> simp
@[simp] theorem ackAccepted_active (now : Time) (s : State) : (ackAccepted now s).active = s.active := by unfold ackAccepted; split <;> simp
@[simp] theorem ackAccepted_snSent (now : Time) (s : State) : (ackAccepted now s).snSent = s.snSent := by unfold ackAccepted; split <;> simp
@[simp] theorem ackAccepted_snReceived (now : Time) (s : State) : (ackAccepted now s).snReceived = s.snReceived := by unfold ackAccepted; split <;> simp
@[simp] theorem ackAccepted_status (now : Time) (s : State) : (ackAccepted now s).status = s.status := by unfold ackAccepted; split <;> simp
@[simp] theorem ackAccepted_rtxLen (now : Time) (s : State) : (ackAccepted now s).rtxLen = s.rtxLen := by unfold ackAccepted; split <;> simp
@[simp] theorem ackAccepted_rtxBuf (now : Time) (s : State) : (ackAccepted now s).rtxBuf = s.rtxBuf := by unfold ackAccepted; split <;> simp
@[simp] theorem ackAccepted_rtxTs (now : Time) (s : State) : (ackAccepted now s).rtxTs = s.rtxTs := by unfold ackAccepted; split <;> simp
@[simp] theorem ackAccepted_maxRetries (now : Time) (s : State) : (ackAccepted now s).maxRetries = s.maxRetries := by unfold ackAccepted; split <;> simp
@[simp] theorem ackAccepted_twTs (now : Time) (s : State) : (ackAccepted now s).twTs = s.twTs := by unfold ackAccepted; split <;> simp
@[simp] theorem ackAccepted_curTag (now : Time) (s : State) : (ackAccepted now s).curTag = s.curTag := by unfold ackAccepted; split <;> simp
@[simp] theorem ackAccepted_txq (now : Time) (s : State) : (ackAccepted now s).txq = s.txq := by unfold ackAccepted; split <;> simp
@[simp] theorem ackAccepted_rxq (now : Time) (s : State) : (ackAccepted now s).rxq = s.rxq := by unfold ackAccepted; split <;> simp
@[simp] theorem ackAccepted_rxPhase (now : Time) (s : State) : (ackAccepted now s).rxPhase = s.rxPhase := by unfold ackAccepted; split <;> simp
@[simp] theorem ackAccepted_rxCtl (now : Time) (s : State) : (ackAccepted now s).rxCtl = s.rxCtl := by unfold ackAccepted; split <;> simp
@[simp] theorem ackAccepted_rxLen (now : Time) (s : State) : (ackAccepted now s).rxLen = s.rxLen := by unfold ackAccepted; split <;> simp
@[simp] theorem ackAccepted_rxPay (now : Time) (s : State) : (ackAccepted now s).rxPay = s.rxPay := by unfold ackAccepted; split <;> simp
@[simp] theorem ackAccepted_rxCnt (now : Time) (s : State) : (ackAccepted now s).rxCnt = s.rxCnt := by unfold ackAccepted; split <;> simp
@[simp] theorem ackAccepted_rxCrcHi (now : Time) (s : State) : (ackAccepted now s).rxCrcHi = s.rxCrcHi := by unfold ackAccepted; split <;> simp
@[simp] theorem ackAccepted_rxTs (now : Time) (s : State) : (ackAccepted now s).rxTs = s.rxTs := by unfold ackAccepted; split <;> simp
@[simp] theorem ackAccepted_busy (now : Time) (s : State) : (ackAccepted now s).busy = s.busy := by unfold ackAccepted; split <;> simp
@[simp] theorem ackAccepted_inbox (now : Time) (s : State) : (ackAccepted now s).inbox = s.inbox := by unfold ackAccepted; split <;> simp

/-! ### fail: what it leaves unchanged -/

@[simp] theorem fail_cfg (code : Code) (s : State) : (fail code s).cfg = s.cfg := by simp [fail]
@[simp] theorem fail_opened (code : Code) (s : State) : (fail code s).opened = s.opened := by simp [fail]
@[simp] theorem fail_active (code : Code) (s : State) : (fail code s).active = s.active := by simp [fail]
@[simp] theorem fail_snSent (code : Code) (s : State) : (fail code s).snSent = s.snSent := by simp [fail]
@[simp] theorem fail_snReceived (code : Code) (s : State) : (fail code s).snReceived = s.snReceived := by simp [fail]
@[simp] theorem fail_rtxLen (code : Code) (s : State) : (fail code s).rtxLen = s.rtxLen := by simp [fail]
@[simp] theorem fail_rtxBuf (code : Code) (s : State) : (fail code s).rtxBuf = s.rtxBuf := by simp [fail]
@[simp] theorem fail_rtxTs (code : Code) (s : State) : (fail code s).rtxTs = s.rtxTs := by simp [fail]
@[simp] theorem fail_retry (code : Code) (s : State) : (fail code s).retry = s.retry := by simp [fail]
@[simp] theorem fail_maxRetries (code : Code) (s : State) : (fail code s).maxRetries = s.maxRetries := by simp [fail]
@[simp] theorem fail_srtt (code : Code) (s : State) : (fail code s).srtt = s.srtt := by simp [fail]
@[simp] theorem fail_rto (code : Code) (s : State) : (fail code s).rto = s.rto := by simp [fail]
@[simp] theorem fail_twTs (code : Code) (s : State) : (fail code s).twTs = s.twTs := by simp [fail]
@[simp] theorem fail_curTag (code : Code) (s : State) : (fail code s).curTag = s.curTag := by simp [fail]
@[simp] theorem fail_txq (code : Code) (s : State) : (fail code s).txq = s.txq := by simp [fail]
@[simp] theorem fail_rxq (code : Code) (s : State) : (fail code s).rxq = s.rxq := by simp [fail]
@[simp] theorem fail_rxPhase (code : Code) (s : State) : (fail code s).rxPhase = s.rxPhase := by simp [fail]
@[simp] theorem fail_rxCtl (code : Code) (s : State) : (fail code s).rxCtl = s.rxCtl := by simp [fail]
@[simp] theorem fail_rxLen (code : Code) (s : State) : (fail code s).rxLen = s.rxLen := by simp [fail]
@[simp] theorem fail_rxPay (code : Code) (s : State) : (fail code s).rxPay = s.rxPay := by simp [fail]
@[simp] theorem fail_rxCnt (code : Code) (s : State) : (fail code s).rxCnt = s.rxCnt := by simp [fail]
@[simp] theorem fail_rxCrcHi (code : Code) (s : State) : (fail code s).rxCrcHi = s.rxCrcHi := by simp [fail]
@[simp] theorem fail_rxTs (code : Code) (s : State) : (fail code s).rxTs = s.rxTs := by simp [fail]
@[simp] theorem fail_busy (code : Code) (s : State) : (fail code s).busy = s.busy := by simp [fail]
@[simp] theorem fail_inbox (code : Code) (s : State) : (fail code s).inbox = s.inbox := by simp [fail]

/-! ### ackReply: what it leaves unchanged -/

@[simp] theorem ackReply_cfg (p : Pkt) (now : Time) (s : State) : (ackReply p now s).cfg = s.cfg := by simp [ackReply_eq]
@[simp] theorem ackReply_opened (p : Pkt) (now : Time) (s : State) : (ackReply p now s).opened = s.opened := by simp [ackReply_eq]
@[simp] theorem ackReply_conn (p : Pkt) (now : Time) (s : State) : (ackReply p now s).conn = s.conn := by simp [ackReply_eq]
@[simp] theorem ackReply_active (p : Pkt) (now : Time) (s : State) : (ackReply p now s).active = s.active := by simp [ackReply_eq]
@[simp] theorem ackReply_snSent (p : Pkt) (now : Time) (s : State) : (ackReply p now s).snSent = s.snSent := by simp [ackReply_eq]
@[simp] theorem ackReply_snReceived (p : Pkt) (now : Time) (s : State) : (ackReply p now s).snReceived = s.snReceived := by simp [ackReply_eq]
@[simp] theorem ackReply_status (p : Pkt) (now : Time) (s : State) : (ackReply p now s).status = s.status := by simp [ackReply_eq]
@[simp] theorem ackReply_rtxValid (p : Pkt) (now : Time) (s : State) : (ackReply p now s).rtxValid = s.rtxValid := by simp [ackReply_eq]
@[simp] theorem ackReply_rtxLen (p : Pkt) (now : Time) (s : State) : (ackReply p now s).rtxLen = s.rtxLen := by simp [ackReply_eq]
@[simp] theorem ackReply_rtxBuf (p : Pkt) (now : Time) (s : State) : (ackReply p now s).rtxBuf = s.rtxBuf := by simp [ackReply_eq]
@[simp] theorem ackReply_rtxTs (p : Pkt) (now : Time) (s : State) : (ackReply p now s).rtxTs = s.rtxTs := by simp [ackReply_eq]
@[simp] theorem ackReply_retry (p : Pkt) (now : Time) (s : State) : (ackReply p now s).retry = s.retry := by simp [ackReply_eq]
@[simp] theorem ackReply_maxRetries (p : Pkt) (now : Time) (s : State) : (ackReply p now s).maxRetries = s.maxRetries := by simp [ackReply_eq]
@[simp] theorem ackReply_srtt (p : Pkt) (now : Time) (s : State) : (ackReply p now s).srtt = s.srtt := by simp [ackReply_eq]
@[simp] theorem ackReply_rto (p : Pkt) (now : Time) (s : State) : (ackReply p now s).rto = s.rto := by simp [ackReply_eq]
@[simp] theorem ackReply_twTs (p : Pkt) (now : Time) (s : State) : (ackReply p now s).twTs = s.twTs := by simp [ackReply_eq]
@[simp] theorem ackReply_curValid (p : Pkt) (now : Time) (s : State) : (ackReply p now s).curValid = s.curValid := by simp [ackReply_eq]
@[simp] theorem ackReply_curTag (p : Pkt) (now : Time) (s : State) : (ackReply p now s).curTag = s.curTag := by simp [ackReply_eq]
@[simp] theorem ackReply_txq (p : Pkt) (now : Time) (s : State) : (ackReply p now s).txq = s.txq := by simp [ackReply_eq]
@[simp] theorem ackReply_rxq (p : Pkt) (now : Time) (s : State) : (ackReply p now s).rxq = s.rxq := by simp [ackReply_eq]
@[simp] theorem ackReply_rxPhase (p : Pkt) (now : Time) (s : State) : (ackReply p now s).rxPhase = s.rxPhase := by simp [ackReply_eq]
@[simp] theorem ackReply_rxCtl (p : Pkt) (now : Time) (s : State) : (ackReply p now s).rxCtl = s.rxCtl := by simp [ackReply_eq]
@[simp] theorem ackReply_rxLen (p : Pkt) (now : Time) (s : State) : (ackReply p now s).rxLen = s.rxLen := by simp [ackReply_eq]
@[simp] theorem ackReply_rxPay (p : Pkt) (now : Time) (s : State) : (ackReply p now s).rxPay = s.rxPay := by simp [ackReply_eq]
@[simp] theorem ackReply_rxCnt (p : Pkt) (now : Time) (s : State) : (ackReply p now s).rxCnt = s.rxCnt := by simp [ackReply_eq]
@[simp] theorem ackReply_rxCrcHi (p : Pkt) (now : Time) (s : State) : (ackReply p now s).rxCrcHi = s.rxCrcHi := by simp [ackReply_eq]
@[simp] theorem ackReply_rxTs (p : Pkt) (now : Time) (s : State) : (ackReply p now s).rxTs = s.rxTs := by simp [ackReply_eq]
@[simp] theorem ackReply_busy (p : Pkt) (now : Time) (s : State) : (ackReply p now s).busy = s.busy := by simp [ackReply_eq]
@[simp] theorem ackReply_inbox (p : Pkt) (now : Time) (s : State) : (ackReply p now s).inbox = s.inbox := by simp [ackReply_eq]

/-! ### rstReply: what it leaves unchanged -/

@[simp] theorem rstReply_cfg (p : Pkt) (now : Time) (s : State) : (rstReply p now s).cfg = s.cfg := by simp [rstReply_eq]
@[simp] theorem rstReply_opened (p : Pkt) (now : Time) (s : State) : (rstReply p now s).opened = s.opened := by simp [rstReply_eq]
@[simp] theorem rstReply_conn (p : Pkt) (now : Time) (s : State) : (rstReply p now s).conn = s.conn := by simp [rstReply_eq]
@[simp] theorem rstReply_active (p : Pkt) (now : Time) (s : State) : (rstReply p now s).active = s.active := by simp [rstReply_eq]
@[simp] theorem rstReply_snSent (p : Pkt) (now : Time) (s : State) : (rstReply p now s).snSent = s.snSent := by simp [rstReply_eq]
@[simp] theorem rstReply_snReceived (p : Pkt) (now : Time) (s : State) : (rstReply p now s).snReceived = s.snReceived := by simp [rstReply_eq]
@[simp] theorem rstReply_status (p : Pkt) (now : Time) (s : State) : (rstReply p now s).status = s.status := by simp [rstReply_eq]
@[simp] theorem rstReply_maxRetries (p : Pkt) (now : Time) (s : State) : (rstReply p now s).maxRetries = s.maxRetries := by simp [rstReply_eq]
@[simp] theorem rstReply_srtt (p : Pkt) (now : Time) (s : State) : (rstReply p now s).srtt = s.srtt := by simp [rstReply_eq]
@[simp] theorem rstReply_rto (p : Pkt) (now : Time) (s : State) : (rstReply p now s).rto = s.rto := by simp [rstReply_eq]
@[simp] theorem rstReply_twTs (p : Pkt) (now : Time) (s : State) : (rstReply p now s).twTs = s.twTs := by simp [rstReply_eq]
@[simp] theorem rstReply_curTag (p : Pkt) (now : Time) (s : State) : (rstReply p now s).curTag = s.curTag := by simp [rstReply_eq]
@[simp] theorem rstReply_txq (p : Pkt) (now : Time) (s : State) : (rstReply p now s).txq = s.txq := by simp [rstReply_eq]
@[simp] theorem rstReply_rxq (p : Pkt) (now : Time) (s : State) : (rstReply p now s).rxq = s.rxq := by simp [rstReply_eq]
@[simp] theorem rstReply_rxPhase (p : Pkt) (now : Time) (s : State) : (rstReply p now s).rxPhase = s.rxPhase := by simp [rstReply_eq]
@[simp] theorem rstReply_rxCtl (p : Pkt) (now : Time) (s : State) : (rstReply p now s).rxCtl = s.rxCtl := by simp [rstReply_eq]
@[simp] theorem rstReply_rxLen (p : Pkt) (now : Time) (s : State) : (rstReply p now s).rxLen = s.rxLen := by simp [rstReply_eq]
@[simp] theorem rstReply_rxPay (p : Pkt) (now : Time) (s : State) : (rstReply p now s).rxPay = s.rxPay := by simp [rstReply_eq]
@[simp] theorem rstReply_rxCnt (p : Pkt) (now : Time) (s : State) : (rstReply p now s).rxCnt = s.rxCnt := by simp [rstReply_eq]
@[simp] theorem rstReply_rxCrcHi (p : Pkt) (now : Time) (s : State) : (rstReply p now s).rxCrcHi = s.rxCrcHi := by simp [rstReply_eq]
@[simp] theorem rstReply_rxTs (p : Pkt) (now : Time) (s : State) : (rstReply p now s).rxTs = s.rxTs := by simp [rstReply_eq]
@[simp] theorem rstReply_busy (p : Pkt) (now : Time) (s : State) : (rstReply p now s).busy = s.busy := by simp [rstReply_eq]
@[simp] theorem rstReply_inbox (p : Pkt) (now : Time) (s : State) : (rstReply p now s).inbox = s.inbox := by simp [rstReply_eq]

/-! ### What they do to the rest -/

@[simp] theorem ackAccepted_curValid (now : Time) (s : State) : (ackAccepted now s).curValid = false := by
  simp [ackAccepted]
@[simp] theorem ackAccepted_rtxValid (now : Time) (s : State) : (ackAccepted now s).rtxValid = false := by
  unfold ackAccepted
  split <;> simp_all
@[simp] theorem fail_status (code : Code) (s : State) : (fail code s).status = code := by simp [fail]
@[simp] theorem fail_conn (code : Code) (s : State) : (fail code s).conn = .closed := by simp [fail]
@[simp] theorem fail_rtxValid (code : Code) (s : State) : (fail code s).rtxValid = false := by simp [fail]
@[simp] theorem fail_curValid (code : Code) (s : State) : (fail code s).curValid = false := by simp [fail]
@[simp] theorem fail_outs (code : Code) (s : State) :
    (fail code s).outs = if s.curValid then s.outs ++ [.complete s.curTag code] else s.outs := by simp [fail]
@[simp] theorem rstReply_curValid (p : Pkt) (now : Time) (s : State) : (rstReply p now s).curValid = false := by
  simp [rstReply_eq]
@[simp] theorem rstReply_rtxValid (p : Pkt) (now : Time) (s : State) : (rstReply p now s).rtxValid = true := by
  simp [rstReply_eq]

/-- A dispatch of a non-empty queue, in full (R200). -/
theorem dispatch_cons {s : State} {e : TxEntry} {rest : List TxEntry} (h : s.txq = e :: rest) (now : Time) :
    dispatch now s =
      sendSeg (buildData s.cfg.crc (!s.snSent) (!s.snReceived) e.eor e.bytes) now true
        { s with txq := rest, curValid := true, curTag := e.tag, snSent := !s.snSent } := by
  simp [dispatch, h]

end Sys2Proof.Machine
end

