-- ==== Sys2Proof/Laws/PerInstr.lean ====
section
/-! SUPPORT. Statements about every instruction as syntax, one lemma for each constructor. -/

namespace Sys2Proof.Laws.EncodedLength

/-- How many bytes an instruction's encoding has: the layouts of R87 for packets, the records of R98 for events. -/
def bytes : Instr → Nat
  | .syn _ _ | .synack _ _ _ | .ack _ _ _ _ | .rst _ _ _ | .rstack _ _ _ _ | .finack _ _ _ _ | .data1 _ _ _ _ _ _ => 4
  | .data _ _ _ _ _ payload _ => payload.length + 6
  | .datap1 _ _ _ _ _ _ _ => 5
  | .opena _ | .openp _ | .rxpop _ | .close _ | .release _ | .tmr _ | .dsp _ => 5
  | .wrcfg _ _ | .rxb _ _ => 6
  | .txpush _ _ _ bytes => bytes.length + 9

/-- The encoding of an instruction has exactly the length its layout or record has (R87, R98). -/
def Statement (i : Instr) : Prop := (encodeBytes i).length = bytes i

theorem syn (now : Time) (k : Byte) : Statement (.syn now k) := rfl
theorem synack (now : Time) (an : Bool) (k : Byte) : Statement (.synack now an k) := rfl
theorem ack (now : Time) (sn an : Bool) (k : Byte) : Statement (.ack now sn an k) := rfl
theorem rst (now : Time) (sn : Bool) (k : Byte) : Statement (.rst now sn k) := rfl
theorem rstack (now : Time) (sn an : Bool) (k : Byte) : Statement (.rstack now sn an k) := rfl
theorem finack (now : Time) (sn an : Bool) (k : Byte) : Statement (.finack now sn an k) := rfl
theorem data (now : Time) (sn an eor : Bool) (k : Byte) (payload : List Byte) (crc : BitVec 16) :
    Statement (.data now sn an eor k payload crc) := by
  simp [Statement, encodeBytes, bytes, Machine.headerBytes, Machine.crcBytes]
theorem data1 (now : Time) (sn an eor : Bool) (b k : Byte) : Statement (.data1 now sn an eor b k) := rfl
theorem datap1 (now : Time) (ackf sn an eor : Bool) (k b : Byte) : Statement (.datap1 now ackf sn an eor k b) := rfl
theorem opena (now : Time) : Statement (.opena now) := rfl
theorem openp (now : Time) : Statement (.openp now) := rfl
theorem txpush (now : Time) (eor : Bool) (tag : Tag) (bs : List Byte) : Statement (.txpush now eor tag bs) := by
  simp [Statement, encodeBytes, bytes, recordBytes, Machine.bytes32]
theorem rxpop (now : Time) : Statement (.rxpop now) := rfl
theorem close (now : Time) : Statement (.close now) := rfl
theorem release (now : Time) : Statement (.release now) := rfl
theorem wrcfg (now : Time) (value : Byte) : Statement (.wrcfg now value) := rfl
theorem rxb (now : Time) (byte : Byte) : Statement (.rxb now byte) := rfl
theorem tmr (now : Time) : Statement (.tmr now) := rfl
theorem dsp (now : Time) : Statement (.dsp now) := rfl

end Sys2Proof.Laws.EncodedLength
end

