-- ==== Sys2Proof/Laws/Procedures.lean ====
section
/-! SUPPORT. Running a procedure list (R140): how a verdict hands on, and what the invariants say of a state before a
packet step. -/

namespace Sys2Proof.Machine

/-- What a verdict hands to the rest of the list. -/
def Verdict.andThen (v : Verdict) (k : State → State) : State :=
  match v with
  | .stop s => s
  | .cont s => k s

@[simp] theorem Verdict.stop_andThen (s : State) (k : State → State) : (Verdict.stop s).andThen k = s := rfl
@[simp] theorem Verdict.cont_andThen (s : State) (k : State → State) : (Verdict.cont s).andThen k = k s := rfl
theorem Verdict.ite_andThen (c : Prop) [Decidable c] (v w : Verdict) (k : State → State) :
    (if c then v else w).andThen k = if c then v.andThen k else w.andThen k := by
  split <;> rfl

@[simp] theorem runProcs_nil (p : Pkt) (now : Time) (s : State) : runProcs [] p now s = s := rfl
theorem runProcs_cons (f : Proc) (l : List Proc) (p : Pkt) (now : Time) (s : State) :
    runProcs (f :: l) p now s = (runProc f p now s).andThen (runProcs l p now) := by
  unfold runProcs
  cases runProc f p now s <;> rfl

/-- A procedure that ends a list leaves its state, however it ends. -/
theorem runProcs_single (f : Proc) (p : Pkt) (now : Time) (s : State) :
    runProcs [f] p now s = (runProc f p now s).state := by
  rw [runProcs_cons]
  cases runProc f p now s <;> rfl

/-! ### What the invariants say of a state -/

/-- A connection that is not closed is open (R21). -/
theorem Inv.opened_of_conn {s : State} (h : Inv s) (hc : s.conn ≠ .closed) : s.opened = true := by
  cases ho : s.opened
  · exact absurd (congrArg State.conn (h.closedIsReset ho)) hc
  · rfl

/-- A fragment is outstanding in ESTABLISHED only (R41). -/
theorem Inv.no_outstanding {s : State} (h : Inv s) (hc : s.conn ≠ .established) : s.curValid = false := by
  cases ho : s.curValid
  · rfl
  · exact absurd (h.outstandingInSlot ho).2 hc

/-- Before ESTABLISHED nothing is queued (R41 (v)). -/
theorem Inv.nothing_queued {s : State} (h : Inv s) (hc : afterEstablished s.conn = false) : s.txq = [] := by
  by_contra hne
  have := h.queuedAfterEstablished hne
  simp_all

/-- Nothing is settled when nothing is outstanding. -/
theorem settle_of_none {s : State} (h : s.curValid = false) (code : Code) : settle code s = s := by
  simp [settle, h]

end Sys2Proof.Machine
end

