-- ==== Sys2Proof/Laws/Time.lean ====
section
/-! SUPPORT. Time in `TIME_W` bits, tags in `TAG_W` bits, and the estimator on the samples that fit. -/

namespace Sys2Proof.Machine

/-! ### Widths -/

theorem sampled_lt (s : State) (now : Time) : sampled s now < 2 ^ s.cfg.timeW := Nat.mod_lt _ (by positivity)

theorem tagBits_lt (s : State) (tag : Tag) : tagBits s tag < 2 ^ s.cfg.tagW := Nat.mod_lt _ (by positivity)

/-- Sampling what has been sampled changes nothing. -/
@[simp] theorem sampled_sampled (s : State) (now : Time) : sampled s (sampled s now) = sampled s now :=
  Nat.mod_mod _ _

/-! ### Differences of time (R10) -/

theorem elapsed_lt (w : Nat) (a b : Time) : elapsed w a b < 2 ^ w := Nat.mod_lt _ (by positivity)

/-- Only the width's bits of the later time count. -/
@[simp] theorem elapsed_mod_right (w : Nat) (a b : Time) : elapsed w a (b % 2 ^ w) = elapsed w a b := by
  simp [elapsed, Nat.add_mod]

/-- Only the width's bits of the earlier time count. -/
@[simp] theorem elapsed_mod_left (w : Nat) (a b : Time) : elapsed w (a % 2 ^ w) b = elapsed w a b := by
  simp [elapsed]

@[simp] theorem elapsed_self (w : Nat) (a : Time) : elapsed w a a = 0 := by
  have h : a % 2 ^ w ≤ 2 ^ w := (Nat.mod_lt _ (by positivity)).le
  rw [elapsed, ← Nat.add_sub_assoc h, Nat.add_comm, Nat.add_sub_assoc (Nat.mod_le _ _), Nat.add_mod_left,
    Nat.sub_mod_eq_zero_of_mod_eq (Nat.mod_mod _ _).symm]

/-- `elapsed(a, b)` is the mathematical `(b - a) mod 2^TIME_W` (R10). -/
theorem elapsed_eq_emod (w : Nat) (a b : Time) : (elapsed w a b : Int) = ((b : Int) - (a : Int)) % 2 ^ w := by
  have h : a % 2 ^ w ≤ 2 ^ w := (Nat.mod_lt _ (by positivity)).le
  rw [elapsed]
  push_cast [Nat.cast_sub h]
  rw [show (b : Int) + (2 ^ w - (a : Int) % 2 ^ w) = (b - (a : Int) % 2 ^ w) + 2 ^ w by ring, Int.add_emod_right]
  rw [Int.sub_emod, Int.emod_emod_of_dvd _ dvd_rfl, ← Int.sub_emod]

@[simp] theorem since_sampled (s : State) (stamp now : Time) : since s stamp (sampled s now) = since s stamp now :=
  elapsed_mod_right _ _ _

/-! ### The estimator (R194) -/

/-- A new `srtt` that has room in 32 bits is the number of the formula. -/
theorem srttNext_of_lt {srtt : Millis} {rtt : Nat} (h : (8 * srtt.toNat + 2 * rtt) / 10 < 2 ^ 32) :
    (srttNext srtt rtt).toNat = (8 * srtt.toNat + 2 * rtt) / 10 := by
  rw [srttNext, if_pos h, BitVec.toNat_ofNat, Nat.mod_eq_of_lt h]

/-- A sample of 32 bits always leaves room. -/
theorem srttNext_fits {srtt : Millis} {rtt : Nat} (h : rtt < 2 ^ 32) : (8 * srtt.toNat + 2 * rtt) / 10 < 2 ^ 32 := by
  have := srtt.isLt
  omega

end Sys2Proof.Machine
end

