-- ==== Sys2Proof/Tests/Slice0.lean ====
section
/-! SUPPORT. Tests. The expected values stand in spec/95_test_vectors.md, under the number that a theorem's docstring
gives, or are worked out by hand from the rule it names. The last part shows states that meet the hypotheses of the
obligations. -/

open Sys2Proof Sys2Proof.Machine Sys2Proof.Spec

namespace Sys2Proof.Tests

/-- The opcode-table row's constructor is well formed: decidable, for the smoke tests. -/
abbrev ok (i : Instr) : Bool := i.wellFormed

/-! ## WellFormed: each check refuses an ill-formed term -/

theorem test_data_of_one_byte_is_ill_formed : ok (.data 0 true true true 0 [0x41] 0) = false := by decide
theorem test_data_of_no_byte_is_ill_formed : ok (.data 0 true true true 0 [] 0) = false := by decide
theorem test_data_of_256_bytes_is_ill_formed : ok (.data 0 true true true 0 (List.replicate 256 0) 0) = false := by decide +kernel
theorem test_data_of_255_bytes_is_well_formed : ok (.data 0 true true true 0 (List.replicate 255 0) 0) = true := by decide +kernel
theorem test_push_of_256_bytes_is_ill_formed : ok (.txpush 0 true 0 (List.replicate 256 0)) = false := by decide +kernel
theorem test_push_of_a_wide_tag_is_ill_formed : ok (.txpush 0 true 65536 []) = false := by decide
theorem test_a_wide_now_is_ill_formed :
    [Instr.opena (2 ^ 32), .openp (2 ^ 32), .txpush (2 ^ 32) true 0 [], .rxpop (2 ^ 32), .close (2 ^ 32), .release (2 ^ 32),
      .wrcfg (2 ^ 32) 0, .rxb (2 ^ 32) 0, .tmr (2 ^ 32), .dsp (2 ^ 32)].all (fun i => !ok i) = true := by decide
theorem test_push_of_no_byte_is_well_formed : ok (.txpush 0 true 0 []) = true := by decide

/-! ## Decoding: one word of each row, written out from its encoding -/

/-- 0000 0001 | 1000 0000 | 1111 1111 | 1000 0000 (T1). -/
theorem test_decode_syn : decodeTableWord 32 0x0180FF80 = some (.syn 0 0x80) := by rfl
/-- Control 1100 0a00 with a = 1, length 255 (T1). -/
theorem test_decode_synack : decodeTableWord 32 0x01C4FF3C = some (.synack 0 true 0x3C) := by rfl
/-- Control 0100 sa00 with s = 1, a = 0 (T1). -/
theorem test_decode_ack : decodeTableWord 32 0x014800B7 = some (.ack 0 true false 0xB7) := by rfl
/-- Control 0001 s000 with s = 1 (T1). -/
theorem test_decode_rst : decodeTableWord 32 0x011800E7 = some (.rst 0 true 0xE7) := by rfl
/-- Control 0101 sa00 with s = 0, a = 1 (T1). -/
theorem test_decode_rstack : decodeTableWord 32 0x015400AB = some (.rstack 0 false true 0xAB) := by rfl
/-- Control 0110 sa00 with s = 1, a = 0 (T1). -/
theorem test_decode_finack : decodeTableWord 32 0x01680097 = some (.finack 0 true false 0x97) := by rfl
/-- Control 0100 sae0 with s = 1, a = 0, e = 1, length 2; payload and CRC bytes beyond the word are 0. -/
theorem test_decode_data :
    decodeTableWord 32 0x014A02B3 = some (.data 0 true false true 0xB3 [0, 0] 0) := by rfl
/-- Control 0100 sae1 with s = 1, a = 1, e = 1; the byte 0x41 in the length field (T1). -/
theorem test_decode_data1 : decodeTableWord 32 0x014F416F = some (.data1 0 true true true 0x41 0x6F) := by rfl
/-- Control 0c00 sae0 with c = 1, s = 1, a = 1, e = 1, length 1 (T23). -/
theorem test_decode_datap1 :
    decodeTableWord 32 0x014E01B0 = some (.datap1 0 true true true true 0xB0 0) := by rfl
/-- The DATA packet of T12 with its payload and CRC. -/
theorem test_decode_data_packet :
    decodeArrival (.packet 7 [0x01, 0x4E, 0x03, 0xAE, 0x61, 0x62, 0x63, 0x9D, 0xD6]) =
      .ok (.data 7 true true true 0xAE [0x61, 0x62, 0x63] 0x9DD6) := by rfl
/-- P1. -/
theorem test_decode_opena : decodeArrival (.record .host [0x01, 0x00, 0x00, 0x03, 0xE8]) = .ok (.opena 1000) := by rfl
/-- P2. -/
theorem test_decode_openp : decodeArrival (.record .host [0x02, 0x00, 0x00, 0x00, 0x00]) = .ok (.openp 0) := by rfl
/-- P1: `eor` = 1, `tag` = 7, one byte. -/
theorem test_decode_txpush :
    decodeArrival (.record .host [0x03, 0x00, 0x00, 0x04, 0x15, 0x01, 0x00, 0x07, 0x01, 0x41]) =
      .ok (.txpush 1045 true 7 [0x41]) := by rfl
/-- P2. -/
theorem test_decode_rxpop : decodeArrival (.record .host [0x04, 0x00, 0x00, 0x01, 0x9A]) = .ok (.rxpop 410) := by rfl
/-- Code 5, `now` = 1000 (R98). -/
theorem test_decode_close : decodeArrival (.record .host [0x05, 0x00, 0x00, 0x03, 0xE8]) = .ok (.close 1000) := by rfl
/-- Code 6, `now` = 0x01020304 (R98). -/
theorem test_decode_release :
    decodeArrival (.record .host [0x06, 0x01, 0x02, 0x03, 0x04]) = .ok (.release 0x01020304) := by rfl
/-- P3. -/
theorem test_decode_wrcfg : decodeArrival (.record .host [0x07, 0x00, 0x00, 0x00, 0x00, 0x03]) = .ok (.wrcfg 0 3) := by rfl
/-- P1. -/
theorem test_decode_rxb : decodeArrival (.record .channel [0x08, 0x00, 0x00, 0x04, 0x10, 0xC4]) = .ok (.rxb 1040 0xC4) := by rfl
/-- P3. -/
theorem test_decode_tmr : decodeArrival (.record .time [0x09, 0x00, 0x00, 0x00, 0xC7]) = .ok (.tmr 199) := by rfl
/-- P1. -/
theorem test_decode_dsp : decodeArrival (.record .engine [0x0A, 0x00, 0x00, 0x04, 0x1A]) = .ok (.dsp 1050) := by rfl

/-! Bytes that are refused, each by its name. -/

theorem test_decode_refuses_code_zero : decodeRecord [0x00, 0, 0, 0, 0] = .error (.reservedCode 0) := by rfl
theorem test_decode_refuses_code_eleven : decodeRecord [0x0B, 0, 0, 0, 0] = .error (.reservedCode 11) := by rfl
theorem test_decode_refuses_high_bits : decodeRecord [0x11, 0, 0, 0, 0] = .error .codeHighBits := by rfl
theorem test_decode_refuses_short_record : decodeRecord [0x07, 0, 0, 0, 0] = .error .shortRecord := by rfl
theorem test_decode_refuses_missing_data : decodeRecord [0x03, 0, 0, 0, 0, 0, 0, 0, 2, 5] = .error .shortRecord := by rfl
theorem test_decode_refuses_eor_byte : decodeRecord [0x03, 0, 0, 0, 0, 2, 0, 0, 0] = .error .eorByte := by rfl
theorem test_decode_refuses_long_record :
    decodeArrival (.record .time [0x09, 0, 0, 0, 0, 0]) = .error .longRecord := by rfl
theorem test_decode_refuses_other_synch : decodeArrival (.packet 0 [0x03, 0x4C, 0x00, 0xB3]) = .error .noSynch := by rfl
/-- SYN and FIN together are no row of the table (R90). -/
theorem test_decode_refuses_syn_fin : decodeArrival (.packet 0 [0x01, 0xA0, 0x00, 0x5F]) = .error .noForm := by rfl
theorem test_decode_refuses_short_packet : decodeArrival (.packet 0 [0x01, 0x4C, 0x00]) = .error .shortPacket := by rfl
theorem test_decode_refuses_long_packet :
    decodeArrival (.packet 0 [0x01, 0x4C, 0x00, 0xB3, 0x00]) = .error .longPacket := by rfl

/-! ## Codec, estimator, driver -/

/-- T3: the carry is dropped before the complement. -/
theorem test_checksum_carry : makeHeader 0xC4 0xFF = [0x01, 0xC4, 0xFF, 0x3C] := by rfl
/-- T5. -/
theorem test_bad_checksums :
    headerOk 0x4C 0x00 0xB2 = false ∧ headerOk 0x4C 0x01 0xB3 = false ∧ headerOk 0x4D 0x00 0xB3 = false := by decide
/-- T11. -/
theorem test_crc_check_value :
    crc16 .xmodem [0x31, 0x32, 0x33, 0x34, 0x35, 0x36, 0x37, 0x38, 0x39] = 0x31C3 := by decide +kernel
/-- T11. -/
theorem test_crc_of_ff_ff : crc16 .xmodem [0xFF, 0xFF] = 0x1D0F ∧ crc16 .xmodem [] = 0 := by decide +kernel
/-- T10: `has_data` and `follow` where flags and length disagree. -/
theorem test_has_data :
    hasData 0x40 1 = true ∧ hasData 0x81 5 = true ∧ hasData 0x10 3 = false ∧ hasData 0x41 0 = true ∧
      follow 0x40 1 = (1, 0) ∧ follow 0x40 0xFF = (255, 2) ∧ follow 0x21 3 = (0, 0) ∧ follow 0xB0 9 = (0, 0) := by decide
/-- T12. -/
theorem test_build_data :
    buildData .xmodem true false true [0x77, 0x88] = [0x01, 0x4A, 0x02, 0xB3, 0x77, 0x88, 0x81, 0x4E] := by decide +kernel
/-- T12: a one-byte fragment. -/
theorem test_build_data1 : buildData .xmodem true false true [0x00] = [0x01, 0x4B, 0x00, 0xB4] := by rfl
/-- T70. -/
theorem test_estimator :
    srttNext 280 3 = 224 ∧ rtoOf 224 = 336 ∧ srttNext 134 133 = 133 ∧ rtoOf 134 = 201 ∧
      srttNext 4294967295 4294967295 = 4294967295 ∧ rtoOf 4294967295 = 4294967295 := by decide
/-- R10, R31, R287, by hand: an 8-bit clock that wraps from 255 to 0, and a 4-bit tag. -/
theorem test_narrow_widths :
    elapsed 8 250 194 = 200 ∧ elapsed 8 250 (194 + 256) = 200 ∧
    sampled { State.reset with cfg := { Config.default with timeW := 8 } } 450 = 194 ∧
    tagBits { State.reset with cfg := { Config.default with tagW := 4 } } 0x17 = 7 := by decide
/-- T120. -/
theorem test_chunks_of_600 :
    (chunks (List.replicate 600 0)).map (fun c => (c.1.length, c.2)) = [(255, false), (255, false), (90, true)] := by decide +kernel

/-! ## One step of each instruction -/

/-- A connection in state `c` with nothing outstanding: the start state of T20. -/
def quiet (c : ConnState) : State := { State.reset with opened := true, conn := c }

/-- A block whose slot holds `p`, sent at time 0. -/
def holding (p : List Byte) (s : State) : State :=
  { s with rtxValid := true, rtxLen := p.length, rtxBuf := Memory.writeBytes [] 0 p }

/-- The outputs of the step that takes `i`. -/
def outputs (i : Instr) (s : State) : Option (List Output) :=
  match step { s with inbox := [encode i] } with
  | .next t => some (t.outs.drop s.outs.length)
  | .fault _ => none
  | .refused _ => none

/-- What `f` reads after the step that takes `i`. -/
def reads {α : Type} (f : State → α) (i : Instr) (s : State) : Option α :=
  match step { s with inbox := [encode i] } with
  | .next t => some (f t)
  | .fault _ => none
  | .refused _ => none

/-- T31. -/
theorem test_syn : outputs (.syn 10 0x80) (quiet .listen) = some [.tx [0x01, 0xC4, 0xFF, 0x3C]] := by rfl
/-- T62: a SYN in ESTABLISHED. -/
theorem test_syn_closes :
    reads (fun t => (t.conn, t.status)) (.syn 200 0x80) (quiet .established) = some (.closed, .connectionReset) := by rfl
/-- T40. -/
theorem test_synack :
    reads (fun t => (t.conn, t.srtt, t.rtxValid)) (.synack 50 true 0x3C) (holding [0x01, 0x80, 0xFF, 0x80] (quiet .synSent)) =
      some (.established, 90, false) := by rfl
/-- T41, with SN 0: the acknowledgment. -/
theorem test_synack_reply :
    outputs (.synack 50 true 0x3C) (quiet .synSent) = some [.tx [0x01, 0x4C, 0x00, 0xB3]] := by rfl
/-- T59. -/
theorem test_ack :
    reads (fun t => (t.conn, t.srtt, t.rtxValid)) (.ack 50 true true 0xB3) (holding [0x01, 0xC4, 0xFF, 0x3C] (quiet .synReceived)) =
      some (.established, 90, false) := by rfl
/-- T63. -/
theorem test_ack_duplicate :
    outputs (.ack 200 false true 0xBB) (quiet .established) = some [.tx [0x01, 0x4C, 0x00, 0xB3]] := by rfl
/-- T65. -/
theorem test_rst :
    reads (fun t => (t.conn, t.status)) (.rst 200 true 0xE7) (quiet .established) = some (.closed, .connectionReset) := by rfl
/-- T52. -/
theorem test_rst_passive :
    reads (fun t => (t.conn, t.rtxValid, t.status)) (.rst 20 true 0xE7)
      (holding [0x01, 0xC4, 0xFF, 0x3C] (quiet .synReceived)) = some (.listen, false, .ok) := by rfl
/-- T45. -/
theorem test_rstack :
    reads (fun t => (t.conn, t.status)) (.rstack 50 false true 0xAB) (quiet .synSent) = some (.closed, .connectionRefused) := by
  rfl
/-- T44. -/
theorem test_rstack_unexpected : reads (·.conn) (.rstack 50 false false 0xAF) (quiet .synSent) = some .synSent := by rfl
/-- T71. -/
theorem test_finack :
    outputs (.finack 1020 false true 0x9B) { quiet .established with snReceived := true } =
      some [.tx [0x01, 0x6C, 0x00, 0x93]] := by rfl
/-- T84. -/
theorem test_finack_in_time_wait :
    reads (fun t => (t.conn, t.twTs)) (.finack 150 true true 0x93) { quiet .timeWait with snSent := true } =
      some (.timeWait, 150) := by rfl
/-- T67. -/
theorem test_data :
    reads (fun t => (t.rxq, t.snReceived, t.outs)) (.data 100 true true true 0xAE [0x61, 0x62, 0x63] 0x9DD6)
        (quiet .established) =
      some ([⟨[0x61, 0x62, 0x63], true⟩], true, [.tx [0x01, 0x48, 0x00, 0xB7]]) := by decide +kernel
/-- T22. -/
theorem test_data_bad_crc :
    reads (fun t => (t.rxq, t.snReceived, t.outs, t.rxPhase)) (.data 40 true true true 0xAE [0x61, 0x62, 0x63] 0x9DD7)
        (quiet .established) = some ([], false, [], .hunt) := by decide +kernel
/-- T24, without T23 before it. -/
theorem test_data1 :
    reads (fun t => (t.rxq, t.outs)) (.data1 60 false true true 0x99 0x1F) { quiet .established with snReceived := true } =
      some ([⟨[0x99], true⟩], [.tx [0x01, 0x4C, 0x00, 0xB3]]) := by rfl
/-- T23. -/
theorem test_datap1 :
    reads (fun t => (t.rxq, t.outs)) (.datap1 50 true true true true 0xB0 0x7A) (quiet .established) =
      some ([⟨[0x7A], true⟩], [.tx [0x01, 0x48, 0x00, 0xB7]]) := by rfl
/-- P1. -/
theorem test_opena : outputs (.opena 1000) State.reset = some [.tx [0x01, 0x80, 0xFF, 0x80], .respond .ok none] := by rfl
/-- T103. -/
theorem test_opena_when_open : outputs (.opena 0) (quiet .listen) = some [.respond .refused none] := by rfl
/-- T103. -/
theorem test_openp : reads (fun t => (t.opened, t.conn, t.outs)) (.openp 0) State.reset =
    some (true, .listen, [.respond .ok none]) := by rfl
/-- P1. -/
theorem test_txpush :
    reads (fun t => (t.txq, t.outs)) (.txpush 1045 true 7 [0x41]) (quiet .established) =
      some ([⟨[0x41], true, 7⟩], [.respond .ok none]) := by rfl
/-- T106. -/
theorem test_txpush_full :
    outputs (.txpush 0 true 2 [2])
      { quiet .established with
        cfg := { Config.default with txqDepth := some 2 }, txq := [⟨[0], true, 0⟩, ⟨[1], true, 1⟩] } =
      some [.respond .wouldBlock none] := by rfl
/-- T113. -/
theorem test_rxpop :
    reads (fun t => (t.rxq, t.outs)) (.rxpop 410) { quiet .closed with rxq := [⟨[0x61, 0x62, 0x63], true⟩] } =
      some ([], [.respond .ok (some ⟨[0x61, 0x62, 0x63], true⟩)]) := by rfl
/-- T101. -/
theorem test_rxpop_empty : outputs (.rxpop 0) State.reset = some [.respond .wouldBlock none] := by rfl
/-- T80. -/
theorem test_close :
    reads (fun t => (t.conn, t.snSent, t.outs)) (.close 100) (quiet .established) =
      some (.finWait, true, [.tx [0x01, 0x6C, 0x00, 0x93], .respond .ok none]) := by rfl
/-- T109. -/
theorem test_close_outstanding :
    outputs (.close 110) { holding [0x01, 0x4F, 0x01, 0xAF] (quiet .established) with snSent := true, curValid := true, curTag := 10 } =
      some [.tx [0x01, 0x64, 0x00, 0x9B], .complete 10 .connectionReset, .respond .ok none] := by rfl
/-- T107. -/
theorem test_release :
    outputs (.release 110)
      { holding [0x01, 0x4F, 0x01, 0xAF] (quiet .established) with
        snSent := true, curValid := true, curTag := 10, txq := [⟨[3], true, 11⟩] } =
      some [.complete 10 .connectionReset, .complete 11 .connectionReset, .respond .ok none] := by rfl
/-- T110: `max_retries` survives RELEASE. -/
theorem test_release_keeps_limit :
    reads (fun t => (t.opened, t.maxRetries)) (.release 0) { quiet .listen with maxRetries := 3 } = some (false, 3) := by rfl
/-- T110. -/
theorem test_wrcfg :
    reads (fun t => (t.maxRetries, t.outs)) (.wrcfg 0 3) State.reset = some (3, [.respond .ok none]) := by rfl
/-- T25: the last byte comes 100 ms after the one before it. -/
theorem test_rxb_late :
    reads (·.rxPhase) (.rxb 269 0xB3) { quiet .established with rxPhase := .cks, rxCtl := 0x4C, rxLen := 0, rxTs := 169 } =
      some .hunt := by rfl
/-- T27: a second marker is a control byte. -/
theorem test_rxb_control :
    reads (fun t => (t.rxPhase, t.rxCtl)) (.rxb 500 0x01) { quiet .established with rxPhase := .ctl, rxTs := 500 } =
      some (.len, 0x01) := by rfl
/-- T74. -/
theorem test_tmr_resends :
    reads (fun t => (t.retry, t.rtxTs, t.outs)) (.tmr 200) (holding [0x01, 0x80, 0xFF, 0x80] (quiet .synSent)) =
      some (1, 200, [.tx [0x01, 0x80, 0xFF, 0x80]]) := by rfl
/-- T76: 1107 is one millisecond early. -/
theorem test_tmr_time_wait :
    reads (·.conn) (.tmr 1107) { quiet .timeWait with twTs := 1020, srtt := 44 } = some .timeWait ∧
      reads (fun t => (t.conn, t.status)) (.tmr 1108) { quiet .timeWait with twTs := 1020, srtt := 44 } =
        some (.closed, .connectionReset) := by decide
/-- P1. -/
theorem test_dsp :
    reads (fun t => (t.snSent, t.curTag, t.txq, t.outs)) (.dsp 1050) { quiet .established with txq := [⟨[0x41], true, 7⟩] } =
      some (true, 7, [], [.tx [0x01, 0x4F, 0x41, 0x6F]]) := by rfl
/-- T111: a reserved code from the host, and from the channel. -/
theorem test_reserved_code :
    step { State.reset with inbox := [.record .host [0x0F, 0, 0, 0, 0]] } =
        .next { State.reset with outs := [.respond .refused none] } ∧
      step { State.reset with inbox := [.record .channel [0x00, 0, 0, 0, 0]] } = .next State.reset := ⟨rfl, rfl⟩
/-- A record that R98 does not describe is refused by name (log 8). -/
theorem test_malformed_record :
    step { State.reset with inbox := [.record .host [0xF1, 0, 0, 0, 0]] } = .refused .malformedRecord := by rfl
/-- T91b, with a packet of no row of the table: SN alone, in CLOSED. -/
theorem test_packet_of_no_row :
    (match step { quiet .closed with inbox := [.packet 900 [0x01, 0x08, 0x00, 0xF7]] } with
      | .next t => t.outs
      | _ => []) = [.tx [0x01, 0x50, 0x00, 0xAF]] := by rfl

/-- An operation presented as it is: a TXPUSH of 256 bytes, for which there is no record (T105). -/
theorem test_event_presented :
    (match step { quiet .established with inbox := [.event (.txpush 5 true 9 (List.replicate 256 0))] } with
      | .next t => t.outs
      | _ => []) = [.respond .refused none] := by decide +kernel
/-! ## The driver layer -/

/-- A driver that waits for two fragments, the callback 3 on the second. -/
def waiting (s : State) : Driver := ⟨s, [(6, none), (7, some 3)], 0, [], 8⟩

/-- R230: the callback of a two-fragment message hangs on the second fragment; the tag 7 is skipped, for it waits. -/
theorem test_send_remembers :
    ((send (List.replicate 256 0) (some 9) [] { waiting (quiet .established) with callbacks := [(7, some 3)], nextTag := 6 }).2.callbacks) =
      [(7, some 3), (6, none), (8, some 9)] := by decide +kernel
/-- R230, 90_conflicts.md C3. -/
theorem test_send_empty :
    (send [] (some 9) [] (waiting (quiet .established))).2.invoked = [(9, .ok)] ∧
    (send [] (some 9) [] (waiting (quiet .closed))).2.invoked = [] := ⟨rfl, rfl⟩
/-- R234, R236: RELEASE completes both fragments; the callback is invoked once, with ConnectionReset. -/
theorem test_close_invokes :
    (driverClose 100 0 0 [] (waiting { quiet .timeWait with txq := [⟨[1], false, 6⟩, ⟨[2], true, 7⟩] })).invoked =
      [(3, .connectionReset)] := by rfl
/-- R232, R130 (1): a marker that comes `T_BYTE` after the byte before it ends the attempt; one in time is a control byte. -/
theorem test_late_marker_ends_attempt :
    (receiveAttempt 500 [(600, some 0x01), (600, some 0x4C)] { quiet .established with rxPhase := .ctl, rxTs := 500 }).rxPhase = .ctl ∧
    (receiveAttempt 500 [(599, some 0x01)] { quiet .established with rxPhase := .ctl, rxTs := 500 }).rxPhase = .len := ⟨rfl, rfl⟩

/-! ## States and operands that meet the hypotheses of the obligations -/

/-- A connection with nothing outstanding and a queue that suits its state satisfies the invariants. -/
theorem quiet_inv (c : ConnState) (q : List TxEntry) (hc : c ≠ .closed) (hq : q ≠ [] → afterEstablished c = true)
    (hs : ∀ e ∈ q, FragmentSize e.bytes) (ht : ∀ e ∈ q, e.tag < 2 ^ 16) : Inv { quiet c with txq := q } where
  idle := rfl
  closedIsReset h := by cases h
  statusIffClosed := by simp [quiet, State.reset, State.resetWith, hc]
  statusIsFatal := .inl rfl
  outstandingInSlot h := by cases h
  outstandingIsBuilt h := by cases h
  establishedSlot _ := rfl
  timeWaitSlot _ := rfl
  closedSlot h := absurd h hc
  slotIsPacket h := by cases h
  queuedAfterEstablished := hq
  txSizes := hs
  rxSizes _ h := by cases h
  txDepth := trivial
  rxDepth := trivial
  rtoFromSrtt := rfl
  stampsFit := by simp [quiet, State.reset, State.resetWith]
  tagsFit := ⟨by simp [quiet, State.reset, State.resetWith], ht⟩
  framer := trivial
  rtxBufForm := rfl
  rxPayForm := rfl

theorem quiet_inv' (c : ConnState) (hc : c ≠ .closed) : Inv (quiet c) :=
  quiet_inv c [] hc (fun h => absurd rfl h) (fun _ h => by cases h) (fun _ h => by cases h)

/-- A connection that waits for the acknowledgment of its SYN. -/
def opening : State := holding [0x01, 0x80, 0xFF, 0x80] { quiet .synSent with active := true }

theorem opening_inv : Inv opening where
  idle := rfl
  closedIsReset h := by cases h
  statusIffClosed := by simp [opening, holding, quiet, State.reset, State.resetWith]
  statusIsFatal := .inl rfl
  outstandingInSlot h := by cases h
  outstandingIsBuilt h := by cases h
  establishedSlot h := by cases h
  timeWaitSlot h := by cases h
  closedSlot h := by cases h
  slotIsPacket _ := ⟨0x80, 0xFF, 0x80, [], rfl, rfl, rfl⟩
  queuedAfterEstablished h := absurd rfl h
  txSizes _ h := by cases h
  rxSizes _ h := by cases h
  txDepth := trivial
  rxDepth := trivial
  rtoFromSrtt := rfl
  stampsFit := by decide
  tagsFit := ⟨by decide, fun _ h => by cases h⟩
  framer := trivial
  rtxBufForm := rfl
  rxPayForm := rfl

/-- A connection with a one-byte fragment outstanding. -/
def sending : State :=
  { holding [0x01, 0x4F, 0x41, 0x6F] (quiet .established) with snSent := true, curValid := true, curTag := 7 }

theorem sending_inv : Inv sending where
  idle := rfl
  closedIsReset h := by cases h
  statusIffClosed := by simp [sending, holding, quiet, State.reset, State.resetWith]
  statusIsFatal := .inl rfl
  outstandingInSlot _ := ⟨rfl, rfl⟩
  outstandingIsBuilt _ := ⟨true, true, [0x41], ⟨by decide, by decide⟩, rfl⟩
  establishedSlot _ := rfl
  timeWaitSlot h := by cases h
  closedSlot h := by cases h
  slotIsPacket _ := ⟨0x4F, 0x41, 0x6F, [], rfl, rfl, rfl⟩
  queuedAfterEstablished h := absurd rfl h
  txSizes _ h := by cases h
  rxSizes _ h := by cases h
  txDepth := trivial
  rxDepth := trivial
  rtoFromSrtt := rfl
  stampsFit := by decide
  tagsFit := ⟨by decide, fun _ h => by cases h⟩
  framer := trivial
  rtxBufForm := rfl
  rxPayForm := rfl

/-- A connection that has failed with Timeout. -/
def failed : State := { quiet .closed with status := .timeout }

theorem failed_inv : Inv failed where
  idle := rfl
  closedIsReset h := by cases h
  statusIffClosed := by simp [failed, quiet]
  statusIsFatal := .inr (.inr (.inr rfl))
  outstandingInSlot h := by cases h
  outstandingIsBuilt h := by cases h
  establishedSlot _ := rfl
  timeWaitSlot h := by cases h
  closedSlot _ := ⟨rfl, rfl⟩
  slotIsPacket h := by cases h
  queuedAfterEstablished h := absurd rfl h
  txSizes _ h := by cases h
  rxSizes _ h := by cases h
  txDepth := trivial
  rxDepth := trivial
  rtoFromSrtt := rfl
  stampsFit := by decide
  tagsFit := ⟨by decide, fun _ h => by cases h⟩
  framer := trivial
  rtxBufForm := rfl
  rxPayForm := rfl

theorem witness_DecodeOfEncodeIsTheInstruction :
    (Instr.data 0 true true true 0 [1, 2] 0).WellFormed ∧ (Instr.data 0 true true true 0 (List.replicate 255 1) 0).WellFormed ∧
    (Instr.txpush 0 true 0 []).WellFormed ∧ (Instr.txpush 0 true 0 (List.replicate 255 1)).WellFormed := by decide +kernel
theorem witness_HeaderRowsFollowMatchAndMask :
    formOf 0x40 2 = some .data ∧ formOf 0x40 1 = some .datap1 ∧ formOf 0x40 0 = some .ack ∧ formOf 0xA0 0 = none := by decide
theorem witness_ReservedCodesAreAnsweredRefused :
    decodeRecord [0, 0, 0, 0, 0] = .error (.reservedCode 0) ∧ decodeRecord [0x0B, 0, 0, 0, 0, 9] = .error (.reservedCode 11) ∧
    decodeRecord [0x0F, 0, 0, 0, 0] = .error (.reservedCode 15) ∧ decodeRecord [0x0A, 0, 0, 0, 0] = .ok (.dsp 0, []) ∧
    decodeRecord [0x01, 0, 0, 0, 0] = .ok (.opena 0, []) ∧
    { State.reset with inbox := [.record .host [0, 0, 0, 0, 0]] }.inbox = .record .host [0, 0, 0, 0, 0] :: [] ∧
    State.reset.busy = false := ⟨rfl, rfl, rfl, rfl, rfl, rfl, rfl⟩
theorem witness_StepRunsTheDecodedInstruction :
    { State.reset with inbox := [encode (.opena 5)] }.inbox = encode (.opena 5) :: [] ∧
    decodeArrival (encode (.opena 5)) = .ok (.opena 5) ∧ State.reset.inbox = [] := ⟨rfl, rfl, rfl⟩
theorem witness_PacketFormIsTheRxbsOfItsBytes : encode (.ack 3 true true 0xB3) = .packet 3 [0x01, 0x4C, 0x00, 0xB3] := by rfl
theorem witness_EveryHeaderOnlyPacketReachesThePacketStep :
    { quiet .established with inbox := [.packet 5 [0x01, 0xB1, 0x09, 0x45]] }.inbox =
      .packet 5 [synch, 0xB1, 0x09, 0x45] :: [] ∧
    HuntReady { quiet .established with inbox := [.packet 5 [0x01, 0xB1, 0x09, 0x45]] } ∧
    headerOk 0xB1 0x09 0x45 = true ∧ follow 0xB1 0x09 = (0, 0) := ⟨rfl, ⟨rfl, rfl, by decide⟩, rfl, rfl⟩
/-- Control 00 with length 7 (T10), the shortest and the longest payload of layout PC, and layout P1, all with ACK clear. -/
theorem witness_EveryPayloadPacketReachesThePacketStep :
    HuntReady (quiet .established) ∧ (quiet .established).rxPay.wf rxPaySize = true ∧
    (headerOk 0x00 0x07 0xF8 = true ∧ follow 0x00 0x07 = ((List.replicate 7 (0 : Byte)).length, 2)) ∧
    (headerOk 0x00 0x02 0xFD = true ∧ follow 0x00 0x02 = (([1, 2] : List Byte).length, 2)) ∧
    (headerOk 0x00 0xFF 0x00 = true ∧ follow 0x00 0xFF = ((List.replicate 255 (0 : Byte)).length, 2)) ∧
    (headerOk 0x08 0x01 0xF6 = true ∧ follow 0x08 0x01 = (1, 0)) ∧
    { quiet .established with inbox := [.packet 5 [0x01, 0x08, 0x01, 0xF6, 0x41]] }.inbox =
      .packet 5 [synch, 0x08, 0x01, 0xF6, 0x41] :: [] := ⟨⟨rfl, rfl, by decide⟩, by decide +kernel⟩
theorem witness_SingleBitFlipsAreDetected : 0 < 8 ∧ 7 < 8 ∧ headerOk 0x4C 0x00 0xB3 = true := by decide
theorem witness_HasDataIffPayload :
    ([] : List Byte).length = (0 : Byte).toNat ∧ (List.replicate 255 (0 : Byte)).length = (0xFF : Byte).toNat := by decide +kernel
theorem witness_BuiltDataPacketsFrameThemselves :
    FragmentSize [0] ∧ FragmentSize [0, 0] ∧ FragmentSize (List.replicate 255 0) := by
  unfold FragmentSize
  decide +kernel
theorem witness_EstimatorLaws :
    2 ^ 32 - 1 < 2 ^ 32 ∧ (133 : Millis).toNat ≤ 133 ∧ 134 ≤ (134 : Millis).toNat ∧
    (2863311529 : Millis).toNat < 2863311530 ∧ 2863311530 ≤ (2863311530 : Millis).toNat ∧
    99 < (100 : Millis).toNat ∧ (95 : Millis).toNat + 4 < 100 ∧
    (96 : Millis).toNat ≤ 100 ∧ 100 ≤ (96 : Millis).toNat + 4 ∧ (100 : Millis).toNat ≤ 100 := by decide
/-- One state and byte for each clause: too late by nothing, in HUNT, in time by one millisecond in each other phase. -/
theorem witness_RxbAdvancesTheFramer :
    (quiet .established).opened = true ∧ (quiet .established).busy = false ∧
    (RxPhase.ctl ≠ .hunt ∧ (100 : Millis).toNat ≤ elapsed 32 0 100) ∧ (quiet .established).rxPhase = .hunt ∧
    elapsed 32 0 99 < (quiet .established).cfg.tByte.toNat ∧
    headerOk 0x4C 0x00 0xB2 = false ∧ (headerOk 0x4C 0x02 0xB1 = true ∧ follow 0x4C 0x02 ≠ (0, 0)) ∧
    (headerOk 0x4C 0x00 0xB3 = true ∧ follow 0x4C 0x00 = (0, 0)) ∧
    ((0 : Byte) + 1 ≠ 2) ∧ ((1 : Byte) + 1 = 2 ∧ 1 < (2 : Byte).toNat) ∧ ((0 : Byte) + 1 = 1 ∧ (1 : Byte).toNat ≤ 1) ∧
    (join16 0x56 0x7A ≠ crc16 .xmodem [0x41, 0x42]) ∧ join16 0x56 0x7B = crc16 .xmodem [0x41, 0x42] := by decide +kernel
theorem witness_ClosedBlockIgnoresChannelAndTime :
    State.reset.opened = false ∧ State.reset.busy = false ∧ fromChannel (.data1 5 true true true 0x41 0x6F) = true := by decide
theorem witness_HeaderFormsRunThePacketStep :
    HuntReady (quiet .established) ∧ headerOk 0x80 0xFF 0x80 = true ∧ headerOk (mkCtl 0xC0 false true) 0xFF 0x3C = true ∧
    headerOk (mkCtl 0x40 true true) 0 0xB3 = true ∧ headerOk (mkCtl 0x10 true false) 0 0xE7 = true ∧
    headerOk (mkCtl 0x50 true false) 0 0xA7 = true ∧ headerOk (mkCtl 0x60 true true) 0 0x93 = true ∧
    headerOk (dataCtl 0x41 true true true) 0x41 0x6F = true := ⟨⟨rfl, rfl, by decide⟩, by decide⟩
theorem witness_PayloadPacketsRunThePacketStep :
    HuntReady (quiet .established) ∧ (quiet .established).rxPay.wf rxPaySize = true ∧
    DataFits [0x61, 0x62] ∧ DataFits (List.replicate 255 (0 : Byte)) ∧
    headerOk (dataCtl 0x40 true true true) (lenByte [0x61, 0x62]) 0xAF = true ∧
    headerOk (dataCtl (bitAt true 6) true true true) 1 0xB0 = true := ⟨⟨rfl, rfl, by decide⟩, by decide +kernel⟩
theorem witness_BadChecksumDiscardsTheHeader :
    HuntReady (quiet .established) ∧ headerOk 0x80 0xFF 0x81 = false ∧ headerOk (mkCtl 0xC0 false true) 0xFF 0x3D = false ∧
    headerOk (mkCtl 0x40 true true) 0 0xB2 = false ∧ headerOk (mkCtl 0x10 true false) 0 0xE6 = false ∧
    headerOk (mkCtl 0x50 true false) 0 0xA6 = false ∧ headerOk (mkCtl 0x60 true true) 0 0x92 = false ∧
    headerOk (dataCtl 0x41 true true true) 0x41 0x6E = false ∧
    headerOk (dataCtl 0x40 true true true) (lenByte [0x61, 0x62]) 0xAE = false ∧
    headerOk (dataCtl (bitAt true 6) true true true) 1 0xB1 = false := ⟨⟨rfl, rfl, by decide⟩, by decide⟩
/-- The last byte of the longest payload, at index 254. -/
theorem witness_PayloadBufferFrame :
    (∃ t, exec (.rxb 0 9) { quiet .established with rxPhase := .pay, rxCtl := 0x4C, rxLen := 255, rxCnt := 254 } = .next t) ∧
    (quiet .established).rxPay.wf rxPaySize = true ∧ ∃ t, exec (.rxpop 0) (quiet .established) = .next t :=
  ⟨⟨_, rfl⟩, rfl, ⟨_, rfl⟩⟩
/-- The six statements about the packet step, each at a state in the middle of an event. -/
def during (s : State) : State := { s with busy := true }

theorem witness_ListenAnswers :
    Inv { during (quiet .listen) with busy := false } ∧ (during (quiet .listen)).conn = .listen := ⟨quiet_inv' _ (by decide), rfl⟩
theorem witness_SynSentAnswers :
    Inv { during opening with busy := false } ∧ (during opening).conn = .synSent := ⟨opening_inv, rfl⟩
theorem witness_SynReceivedAnswers :
    Inv { during (quiet .synReceived) with busy := false } ∧ (during (quiet .synReceived)).conn = .synReceived :=
  ⟨quiet_inv' _ (by decide), rfl⟩
theorem witness_EstablishedAnswers :
    Inv { during sending with busy := false } ∧ (during sending).conn = .established := ⟨sending_inv, rfl⟩
theorem witness_FinWaitAnswers :
    Inv { during (quiet .finWait) with busy := false } ∧ (during (quiet .finWait)).conn = .finWait :=
  ⟨quiet_inv' _ (by decide), rfl⟩
theorem witness_LateClosingStatesAnswer :
    (Inv { during (quiet .lastAck) with busy := false } ∧ (during (quiet .lastAck)).conn = .lastAck) ∧
    (Inv { during (quiet .closing) with busy := false } ∧ (during (quiet .closing)).conn = .closing) ∧
    (Inv { during (quiet .timeWait) with busy := false } ∧ (during (quiet .timeWait)).conn = .timeWait) :=
  ⟨⟨quiet_inv' _ (by decide), rfl⟩, ⟨quiet_inv' _ (by decide), rfl⟩, ⟨quiet_inv' _ (by decide), rfl⟩⟩
theorem witness_ClosedAnswers : failed.conn = .closed := rfl
theorem witness_SendSegEmitsAndLoadsTheSlot :
    retransmittable [0x01, 0x4C, 0x00, 0xB3] = false ∧ retransmittable [0x01, 0x10, 0x00, 0xEF] = true ∧
    (quiet .established).curValid = false ∧ sending.curValid = true := by decide
/-- The longest packet, 261 bytes. -/
theorem witness_SlotHoldsThePacketVerbatim :
    retransmittable (buildData .xmodem true true true (List.replicate 255 9)) = true ∧
    (buildData .xmodem true true true (List.replicate 255 9)).length ≤ rtxBufSize ∧
    sending.rtxBuf.wf rtxBufSize = true := by decide +kernel
theorem witness_AckAcceptedUpdatesTheEstimator : (quiet .established).rtxValid = false ∧ sending.rtxValid = true := by decide
theorem witness_DspDispatchesTheHeadFragment :
    (let s := { quiet .established with txq := [⟨[0x41], true, 7⟩] }
     s.busy = false ∧ s.opened = true ∧ s.conn = .established ∧ s.curValid = false ∧ s.rtxValid = false ∧
       s.txq = ⟨[0x41], true, 7⟩ :: []) ∧
    FragmentSize [0x41] ∧ FragmentSize (List.replicate 255 0x41) ∧
    State.reset.opened = false ∧ (quiet .finWait).conn ≠ .established ∧ sending.curValid = true ∧ sending.rtxValid = true ∧
    (quiet .established).txq = [] := by
  unfold FragmentSize
  decide +kernel
/-- 199 ms after the segment was sent, and with no segment; 2 * `srtt` after TIME_WAIT was entered. -/
theorem witness_TimerEndsTimeWait :
    (Inv opening ∧ opening.opened = true ∧ elapsed opening.cfg.timeW opening.rtxTs 199 < opening.rto.toNat) ∧
    (Inv (quiet .timeWait) ∧ (quiet .timeWait).rtxValid = false ∧ (quiet .timeWait).conn = .timeWait ∧
      2 * (quiet .timeWait).srtt.toNat ≤ elapsed (quiet .timeWait).cfg.timeW (quiet .timeWait).twTs 200) :=
  ⟨⟨opening_inv, rfl, by decide⟩, quiet_inv' _ (by decide), rfl, rfl, by decide⟩
theorem witness_TimerRetransmitsVerbatim :
    Inv opening ∧ opening.rtxValid = true ∧ opening.rto.toNat ≤ elapsed opening.cfg.timeW opening.rtxTs 200 := ⟨opening_inv, rfl, by decide⟩
/-- The host commands: a block without and with a connection record, both idle. -/
theorem witness_OpenaSendsSyn :
    State.reset.busy = false ∧ State.reset.opened = false ∧ (quiet .listen).busy = false ∧ (quiet .listen).opened = true := by
  decide
theorem witness_OpenpListens :
    State.reset.busy = false ∧ State.reset.opened = false ∧ (quiet .listen).busy = false ∧ (quiet .listen).opened = true := by
  decide
/-- Lengths at the edges of each clause; a queue one entry short of its depth, one at its depth, and one of depth 0. -/
theorem witness_TxpushQueuesOneFragment :
    (quiet .established).busy = false ∧ (quiet .established).opened = true ∧ (quiet .established).conn = .established ∧
    ¬(State.reset.opened = true ∧ State.reset.conn = .established) ∧
    (([] : List Byte).length = 0 ∧ 255 < (List.replicate 256 (0 : Byte)).length) ∧
    (1 ≤ ([7] : List Byte).length ∧ (List.replicate 255 (7 : Byte)).length ≤ 255) ∧
    queueFull (some 2) 1 = false ∧ queueFull (some 2) 2 = true ∧ queueFull (some 0) 0 = true ∧ queueFull none 9 = false := by
  decide +kernel
theorem witness_RxpopTakesTheHead :
    State.reset.busy = false ∧ State.reset.rxq = [] ∧
    { quiet .closed with rxq := [⟨[9], false⟩] }.rxq = ⟨[9], false⟩ :: [] := ⟨rfl, rfl, rfl⟩
theorem witness_CloseSendsFin : sending.busy = false := rfl
theorem witness_ReleaseResetsTheBlock :
    State.reset.busy = false ∧ State.reset.opened = false ∧ sending.busy = false ∧ sending.opened = true := by decide
theorem witness_WrcfgWritesMaxRetries : failed.busy = false := rfl
theorem witness_CommandWhileBusyStops :
    { State.reset with busy := true }.busy = true ∧ (tableAnswer (.close 0) { State.reset with busy := true }).isSome = true :=
  ⟨rfl, rfl⟩
theorem witness_CommandsAnswerOnceByTheTable :
    tableAnswer (.close 5) sending = some .ok ∧ (∃ t, exec (.close 5) sending = .next t) ∧
    silentCommand (.release 5) = true ∧ uncompletingCommand (.opena 5) = true := ⟨rfl, ⟨_, rfl⟩, rfl, rfl⟩
theorem witness_StepKeepsTheInvariants : Inv opening ∧ ∃ t, step opening = .next t := ⟨opening_inv, _, rfl⟩
theorem witness_CompletionsAreExactlyOnceAndInOrder :
    Inv sending ∧ ∃ t, exec (.ack 50 true false 0xB7) sending = .next t := ⟨sending_inv, _, rfl⟩
theorem witness_ClosedIsInertUntilRelease :
    Inv failed ∧ failed.opened = true ∧ failed.conn = .closed ∧ isRelease (.tmr 1200) = false ∧
    (∃ t, exec (.tmr 1200) failed = .next t) ∧ fromChannel (.tmr 1200) = false :=
  ⟨failed_inv, rfl, rfl, rfl, ⟨_, rfl⟩, rfl⟩
theorem witness_EveryEmittedPacketIsOfTheEightForms : Inv opening ∧ ∃ t, exec (.tmr 200) opening = .next t :=
  ⟨opening_inv, _, rfl⟩
theorem witness_StepAppendsOutputsAndKeepsParameters : ∃ t, step opening = .next t := ⟨_, rfl⟩
/-- `retry` one below the limit, and at the limit of a `max_retries` of 0. -/
theorem witness_RetryStaysWithinTheLimit :
    Inv opening ∧ isWrcfg (.tmr 200) = false ∧
    (opening.conn ≠ .closed → opening.retry.toNat ≤ max opening.maxRetries.toNat 1) ∧
    (∃ t, exec (.tmr 200) opening = .next t) ∧ (1 : BitVec 8).toNat ≤ max (0 : BitVec 8).toNat 1 :=
  ⟨opening_inv, rfl, by decide, ⟨_, rfl⟩, by decide⟩
theorem witness_ConfigurationRegistersHaveOneWriter :
    (∃ t, exec (.wrcfg 0 7) sending = .next t) ∧ isWrcfg (.dsp 0) = false ∧ sending.opened = true ∧
    isRelease (.dsp 0) = false := ⟨⟨_, rfl⟩, rfl, rfl, rfl⟩
/-- The shortest packet with data, and a queue with room for one more entry. -/
theorem witness_DuplicateDataIsAcknowledgedNotStored :
    let p : Pkt := ⟨0x4F, 0x41, [0x41]⟩
    Inv { during (quiet .established) with busy := false } ∧ (during (quiet .established)).conn = .established ∧
    snExpected p (during (quiet .established)) = true ∧ pktRst p = false ∧ pktSyn p = false ∧ pktFin p = false ∧ pktAck p = true ∧ pktHasData p = true ∧
    queueFull (quiet .established).cfg.rxqDepth (quiet .established).rxq.length = false ∧ queueFull (some 1) 0 = false :=
  ⟨quiet_inv' _ (by decide), by decide⟩
/-- The least `T_BYTE`. -/
theorem witness_HandshakeEstablishesBothSides :
    let x := { State.reset with cfg := { Config.default with tByte := 1 } }
    x.opened = false ∧ x.busy = false ∧ x.cfg.tByte ≠ 0 := by decide
theorem witness_FragmentIsDeliveredAndCompleted :
    let x := { quiet .established with txq := [⟨[0x41], true, 7⟩] }
    let y := quiet .established
    Inv x ∧ Inv y ∧ HuntReady x ∧ HuntReady y ∧ x.cfg.crc = y.cfg.crc ∧ x.conn = .established ∧ x.rtxValid = false ∧
    x.txq = ⟨[0x41], true, 7⟩ :: [] ∧ y.conn = .established ∧ y.txq = [] ∧
    queueFull y.cfg.rxqDepth y.rxq.length = false ∧ y.snReceived = x.snSent :=
  ⟨quiet_inv _ _ (by decide) (fun _ => rfl) (by simp [FragmentSize, mdl]) (by simp), quiet_inv' _ (by decide),
    ⟨rfl, rfl, by decide⟩, ⟨rfl, rfl, by decide⟩, by decide⟩
theorem witness_ChunksCarryTheMessage : ([0] : List Byte) ≠ [] := by decide
/-- The second of two fragments waiting under different tags; a tag nobody waits under; an established block. -/
theorem witness_CallbacksFollowTheCompletions :
    (waiting (quiet .established)).callbacks = [(6, none)] ++ (7, some 3) :: [] ∧ (∀ e ∈ [((6 : Tag), (none : Option Callback))], e.1 ≠ 7) ∧
    (∀ e ∈ (waiting (quiet .established)).callbacks, e.1 ≠ 5) ∧ established (waiting (quiet .established)).block = true :=
  ⟨rfl, by decide, by decide, rfl⟩
theorem witness_RecvTakesTheFirstMessage :
    { quiet .established with rxq := [⟨[1], false⟩, ⟨[2], true⟩, ⟨[3], false⟩] }.rxq =
      [⟨[1], false⟩] ++ ⟨[2], true⟩ :: [⟨[3], false⟩] ∧
    (∀ f ∈ [(⟨[1], false⟩ : RxEntry)], f.eor = false) ∧ (quiet .established).busy = false ∧
    ∀ f ∈ (quiet .established).rxq, f.eor = false := ⟨rfl, by decide, rfl, by decide⟩

end Sys2Proof.Tests
end

section
/-! PROOFS of the family 00_scope.md: how a step comes to run an instruction, and what every step keeps of the parameters,
the inbox and the outputs. Everything an event does is built from a few operations that keep `cfg` and `inbox` and at most
append to `outs`; that relation, `OnlyAppends`, is a preorder, so it is shown once for each operation and carried through
procedures, framer, timers and commands. -/

namespace Sys2Proof.Machine

/-! ### One step, by what the inbox holds -/

theorem step_of_inbox_nil {s : State} (h : s.inbox = []) : step s = .next s := by
  simp [step, takeArrival, h]

theorem step_of_decoded {s : State} {a : Arrival} {more : List Arrival} {i : Instr} (h : s.inbox = a :: more)
    (hd : decodeArrival a = .ok i) : step s = exec i { s with inbox := more } := by
  simp [step, takeArrival, h, hd]

theorem step_of_undecoded {s : State} {a : Arrival} {more : List Arrival} {e : DecodeError} (h : s.inbox = a :: more)
    (hd : decodeArrival a = .error e) : step s = runUndecoded a e { s with inbox := more } := by
  simp [step, takeArrival, h, hd]

/-- Settles O5, by the three equations of `step`. -/
theorem stepRunsTheDecodedInstruction : Obligations.StepRunsTheDecodedInstruction :=
  ⟨fun _ _ _ _ hinbox hdecode => step_of_decoded hinbox hdecode, fun _ hinbox => step_of_inbox_nil hinbox⟩

/-! ### The relation -/

/-- `t` has the parameters and the inbox of `s`, and its outputs continue those of `s`. -/
structure OnlyAppends (s t : State) : Prop where
  cfg : t.cfg = s.cfg
  inbox : t.inbox = s.inbox
  outs : s.outs <+: t.outs

namespace OnlyAppends

variable {s t u : State}

@[refl] theorem refl (s : State) : OnlyAppends s s := ⟨rfl, rfl, List.prefix_rfl⟩

@[trans] theorem trans (h : OnlyAppends s t) (h' : OnlyAppends t u) : OnlyAppends s u :=
  ⟨h'.cfg.trans h.cfg, h'.inbox.trans h.inbox, h.outs.trans h'.outs⟩

/-- Writing registers other than the three fields makes no difference. -/
theorem update (h : OnlyAppends s t) (hcfg : u.cfg = t.cfg := by rfl) (hinbox : u.inbox = t.inbox := by rfl)
    (houts : u.outs = t.outs := by rfl) : OnlyAppends s u :=
  ⟨hcfg.trans h.cfg, hinbox.trans h.inbox, houts ▸ h.outs⟩

theorem ite {c : Prop} [Decidable c] (ht : OnlyAppends s t) (hu : OnlyAppends s u) :
    OnlyAppends s (if c then t else u) := by
  split
  · exact ht
  · exact hu

/-! ### The shared operations -/

theorem emit (h : OnlyAppends s t) (p : List Byte) : OnlyAppends s (emit p t) :=
  h.trans ⟨rfl, rfl, List.prefix_append _ _⟩

theorem complete (h : OnlyAppends s t) (tag : Tag) (code : Code) : OnlyAppends s (complete tag code t) :=
  h.trans ⟨rfl, rfl, List.prefix_append _ _⟩

theorem respond (h : OnlyAppends s t) (code : Code) (e : Option RxEntry) : OnlyAppends s (respond code e t) :=
  h.trans ⟨rfl, rfl, List.prefix_append _ _⟩

theorem settle (h : OnlyAppends s t) (code : Code) : OnlyAppends s (settle code t) :=
  .ite ((h.complete t.curTag code).update) h

theorem loadSlot (h : OnlyAppends s t) (p : List Byte) (now : Time) : OnlyAppends s (loadSlot p now t) :=
  h.update

theorem sendSeg (h : OnlyAppends s t) (p : List Byte) (now : Time) (own : Bool) : OnlyAppends s (sendSeg p now own t) :=
  .ite (.loadSlot (.ite (h.emit p) ((h.emit p).settle .connectionReset)) p now) (h.emit p)

theorem ackAccepted (h : OnlyAppends s t) (now : Time) : OnlyAppends s (ackAccepted now t) :=
  settle (.ite h.update h) .ok

theorem fail (h : OnlyAppends s t) (code : Code) : OnlyAppends s (fail code t) :=
  settle h.update code

theorem dispatch (h : OnlyAppends s t) (now : Time) : OnlyAppends s (dispatch now t) := by
  cases hq : t.txq with
  | nil => simpa [Machine.dispatch, hq] using h
  | cons e rest =>
    rw [dispatch_cons hq]
    exact sendSeg h.update _ now true

theorem resetTcb (h : OnlyAppends s t) : OnlyAppends s (resetTcb t) := h.update

theorem event {f : State → State} (hf : ∀ x, OnlyAppends x (f x)) (s : State) : OnlyAppends s (event f s) :=
  ((refl s).update).trans ((hf { s with busy := true }).update)

/-! ### The packet procedures (R143 to R162) -/

theorem ackReply (h : OnlyAppends s t) (p : Pkt) (now : Time) : OnlyAppends s (ackReply p now t) :=
  h.sendSeg _ now false

theorem rstReply (h : OnlyAppends s t) (p : Pkt) (now : Time) : OnlyAppends s (rstReply p now t) :=
  h.sendSeg _ now false

theorem answerSyn (h : OnlyAppends s t) (p : Pkt) (now : Time) : OnlyAppends s (answerSyn p now t) :=
  (sendSeg (t := { t with snReceived := pktSn p }) h.update _ now false).update

theorem dispatchOrAck (h : OnlyAppends s t) (p : Pkt) (now : Time) :
    OnlyAppends s (if dispatchReady t then Machine.dispatch now t else Machine.ackReply p now t) :=
  .ite (h.dispatch now) (h.ackReply p now)

theorem completeOpen (h : OnlyAppends s t) (p : Pkt) (now : Time) : OnlyAppends s (completeOpen p now t) :=
  dispatchOrAck (ackAccepted (t := { t with snReceived := pktSn p }) h.update now).update p now

theorem deliver (h : OnlyAppends s t) (p : Pkt) (now : Time) : OnlyAppends s (deliver p now t) :=
  dispatchOrAck h.update p now

/-! ### Verdicts and procedure lists (R140, R144 to R162) -/

theorem stop (h : OnlyAppends s t) : OnlyAppends s (Verdict.stop t).state := h

theorem cont (h : OnlyAppends s t) : OnlyAppends s (Verdict.cont t).state := h

theorem iteVerdict {c : Prop} [Decidable c] {v w : Verdict} (hv : OnlyAppends s v.state) (hw : OnlyAppends s w.state) :
    OnlyAppends s (if c then v else w).state := by
  split
  · exact hv
  · exact hw

/-- Each of the nineteen procedures, branch by branch in the order of its definition. -/
theorem runProc (f : Proc) (p : Pkt) (now : Time) (s : State) : OnlyAppends s (runProc f p now s).state := by
  have h := refl s
  cases f with
  | a => exact .iteVerdict h (.iteVerdict (h.rstReply p now) (.iteVerdict (h.answerSyn p now) h))
  | b =>
    exact .iteVerdict (.stop (.ite h (h.rstReply p now)))
      (.iteVerdict (h.fail .connectionRefused)
        (.iteVerdict (.stop (.ite (h.completeOpen p now) (h.answerSyn p now))) h))
  | c1 => exact .iteVerdict h (.iteVerdict h (h.ackReply p now))
  | c2 =>
    exact .iteVerdict h (.iteVerdict h
      (.iteVerdict ((h.rstReply p now).fail .connectionReset) (h.ackReply p now)))
  | d1 => exact .iteVerdict h (.iteVerdict (.stop h.update) (h.fail .connectionRefused))
  | d2 => exact .iteVerdict h (h.fail .connectionReset)
  | d3 => exact .iteVerdict h (h.fail .connectionReset)
  | e => exact .iteVerdict h ((h.rstReply p now).fail .connectionReset)
  | f1 =>
    exact .iteVerdict h (.iteVerdict (h.ackAccepted now)
      (.iteVerdict (.stop (h.rstReply p now).update) ((h.rstReply p now).fail .connectionRefused)))
  | f2 => exact .iteVerdict h (.iteVerdict (h.ackAccepted now) h)
  | f3 => exact .iteVerdict h (.iteVerdict (h.ackAccepted now) h)
  | g => exact .iteVerdict h (.iteVerdict (h.emit _) (h.emit _))
  | h1 => exact .cont h.update
  | h2 =>
    exact .iteVerdict h
      (.stop (sendSeg (t := { s with snReceived := pktSn p }) h.update _ now false).update)
  | h3 =>
    exact .iteVerdict h (.iteVerdict ((h.sendSeg _ now false).fail .connectionReset)
      (.iteVerdict (.stop (h.ackReply p now).update) (.stop (h.ackReply p now).update)))
  | h4 => exact .iteVerdict (h.fail .connectionReset) h
  | h5 => exact .iteVerdict (.stop h.update) h
  | h6 => exact .iteVerdict (.stop (h.ackReply p now).update) h
  | i1 => exact .iteVerdict h (.iteVerdict h (h.deliver p now))

theorem runProcs (l : List Proc) (p : Pkt) (now : Time) (s : State) : OnlyAppends s (runProcs l p now s) := by
  induction l generalizing s with
  | nil => rfl
  | cons f rest ih =>
    have hf := runProc f p now s
    rw [runProcs_cons]
    cases hv : Machine.runProc f p now s with
    | stop t =>
      rw [hv] at hf
      exact hf
    | cont t =>
      rw [hv] at hf
      exact hf.trans (ih t)

theorem packetStep (h : OnlyAppends s t) (p : Pkt) (now : Time) : OnlyAppends s (packetStep p now t) :=
  h.trans (runProcs _ p now t)

/-! ### The framer (R120 to R130) -/

theorem handOver (h : OnlyAppends s t) (bytes : List Byte) (now : Time) : OnlyAppends s (handOver bytes now t) :=
  packetStep (t := { t with rxPhase := .hunt }) h.update _ now

theorem byteTimeout (h : OnlyAppends s t) (now : Time) : OnlyAppends s (byteTimeout now t) :=
  .ite h.update h

theorem rxChecksum (h : OnlyAppends s t) (byte : Byte) (now : Time) : OnlyAppends s (rxChecksum byte now t) :=
  .ite h.update (.ite (h.handOver _ now) h.update)

theorem rxPayload (h : OnlyAppends s t) (byte : Byte) (now : Time) : OnlyAppends s (rxPayload byte now t) :=
  have h1 : OnlyAppends s { t with rxPay := t.rxPay.write t.rxCnt.toNat byte, rxCnt := t.rxCnt + 1 } := h.update
  .ite (.ite h1.update (h1.handOver _ now)) h1

theorem rxCrcLow (h : OnlyAppends s t) (byte : Byte) (now : Time) : OnlyAppends s (rxCrcLow byte now t) :=
  .ite (h.handOver _ now) h.update

/-- One byte, in each of the framer's seven phases. -/
theorem rxPhaseStep (h : OnlyAppends s t) (byte : Byte) (now : Time) : OnlyAppends s (rxPhaseStep byte now t) := by
  unfold Machine.rxPhaseStep
  cases t.rxPhase with
  | hunt => exact .ite h.update h
  | ctl | len | crch => exact h.update
  | cks => exact h.rxChecksum byte now
  | pay => exact h.rxPayload byte now
  | crcl => exact h.rxCrcLow byte now

theorem rxByte (byte : Byte) (now : Time) (s : State) : OnlyAppends s (rxByte byte now s) :=
  have h := refl s
  .ite (rxPhaseStep (t := { Machine.byteTimeout (sampled s now) s with rxTs := sampled s now })
    (h.byteTimeout (sampled s now)).update byte _) h

theorem receive (bytes : List Byte) (now : Time) (s : State) : OnlyAppends s (receive bytes now s) := by
  induction bytes generalizing s with
  | nil => rfl
  | cons b rest ih => exact (event (rxByte b now) s).trans (ih _)

/-! ### Timers and dispatch (R196 to R201) -/

theorem timeWaitCheck (h : OnlyAppends s t) (now : Time) : OnlyAppends s (timeWaitCheck now t) :=
  .ite (h.fail .connectionReset) h

theorem retryLimit (h : OnlyAppends s t) : OnlyAppends s (retryLimit t) :=
  .ite (h.fail .timeout) h

theorem resend (h : OnlyAppends s t) (now : Time) : OnlyAppends s (resend now t) :=
  (h.emit (slotPacket t)).update

theorem retransmitCheck (h : OnlyAppends s t) (now : Time) : OnlyAppends s (retransmitCheck now t) :=
  .ite (h.resend now).retryLimit h

theorem timerCheck (now : Time) (s : State) : OnlyAppends s (timerCheck now s) :=
  have h := refl s
  .ite (((h.byteTimeout _).timeWaitCheck _).retransmitCheck _) h

theorem dispatchCheck (now : Time) (s : State) : OnlyAppends s (dispatchCheck now s) :=
  have h := refl s
  .ite (h.dispatch _) h

/-! ### The host commands (R216 to R222) and reserved codes (R97) -/

theorem cmdOpenActive (now : Time) (s : State) : OnlyAppends s (cmdOpenActive now s) :=
  have h := refl s
  have hreset : OnlyAppends s { Machine.resetTcb s with opened := true, active := true, busy := s.busy } := h.update
  have hsyn := hreset.sendSeg (makeHeader 0x80 0xFF) (sampled s now) false
  .ite (h.respond .refused none) (respond hsyn.update .ok none)

theorem cmdOpenPassive (s : State) : OnlyAppends s (cmdOpenPassive s) :=
  have h := refl s
  .ite (h.respond .refused none) (respond h.update .ok none)

theorem cmdPush (bytes : List Byte) (eor : Bool) (tag : Tag) (s : State) : OnlyAppends s (cmdPush bytes eor tag s) :=
  have h := refl s
  .ite (h.respond .networkDown none)
    (.ite (h.respond .refused none) (.ite (h.respond .wouldBlock none) (respond h.update .ok none)))

theorem cmdPop (s : State) : OnlyAppends s (cmdPop s) := by
  have h := refl s
  unfold Machine.cmdPop
  split
  · exact h.respond .wouldBlock none
  · next e rest _ => exact respond (t := { s with rxq := rest }) h.update .ok (some e)

theorem startClose (h : OnlyAppends s t) (now : Time) : OnlyAppends s (startClose now t) :=
  (sendSeg (t := { t with snSent := !t.snSent }) h.update _ now false).update

theorem cmdClose (now : Time) (s : State) : OnlyAppends s (cmdClose now s) :=
  have h := refl s
  respond (.ite (h.startClose _) h) .ok none

theorem giveUpQueue (h : OnlyAppends s t) (q : List TxEntry) : OnlyAppends s (giveUpQueue q t) := by
  induction q generalizing t with
  | nil => exact h
  | cons e rest ih => exact ih (h.complete e.tag .connectionReset)

theorem cmdRelease (s : State) : OnlyAppends s (cmdRelease s) :=
  have h := refl s
  respond (.ite (((h.settle .connectionReset).giveUpQueue s.txq).resetTcb.update) h) .ok none

theorem cmdWriteConfig (value : Byte) (s : State) : OnlyAppends s (cmdWriteConfig value s) :=
  respond (t := { s with maxRetries := value }) (refl s).update .ok none

theorem reservedEvent (issuer : Issuer) (s : State) : OnlyAppends s (reservedEvent issuer s) := by
  have h := refl s
  cases issuer with
  | host => exact h.respond .refused none
  | channel | time | engine => exact h

/-! ### Instructions -/

theorem of_next (h : OnlyAppends s t) (hn : (.next t : Host.Outcome State Fault Refusal) = .next u) :
    OnlyAppends s u :=
  Host.Outcome.next.inj hn ▸ h

theorem of_runEvent {f : State → State} (hf : ∀ x, OnlyAppends x (f x)) (hn : runEvent f s = .next t) :
    OnlyAppends s t :=
  (event hf s).of_next hn

/-- A command that has a next state was presented at `busy` = 0 (log 7). -/
theorem of_runCommand {f : State → State} (hf : ∀ x, OnlyAppends x (f x)) (hn : runCommand f s = .next t) :
    OnlyAppends s t := by
  unfold runCommand at hn
  split at hn
  · cases hn
  · exact (event hf s).of_next hn

/-- Every instruction: a packet form is received byte by byte, a command or another event runs as one event. -/
theorem of_exec (i : Instr) (hn : exec i s = .next t) : OnlyAppends s t := by
  cases i with
  | syn now k | synack now an k | ack now sn an k | rst now sn k | rstack now sn an k | finack now sn an k
  | data now sn an eor k payload crc | data1 now sn an eor b k | datap1 now ackf sn an eor k b =>
    exact (receive _ now s).of_next hn
  | opena now => exact of_runCommand (cmdOpenActive now) hn
  | openp now => exact of_runCommand cmdOpenPassive hn
  | txpush now eor tag bytes => exact of_runCommand (cmdPush bytes eor tag) hn
  | rxpop now => exact of_runCommand cmdPop hn
  | close now => exact of_runCommand (cmdClose now) hn
  | release now => exact of_runCommand cmdRelease hn
  | wrcfg now value => exact of_runCommand (cmdWriteConfig value) hn
  | rxb now byte => exact of_runEvent (rxByte byte now) hn
  | tmr now => exact of_runEvent (timerCheck now) hn
  | dsp now => exact of_runEvent (dispatchCheck now) hn

/-- An arrival that is no instruction of the table (R89, R97; log 8). -/
theorem of_runUndecoded (a : Arrival) (e : DecodeError) (hn : runUndecoded a e s = .next t) : OnlyAppends s t := by
  cases a with
  | packet now bytes => exact (receive bytes now s).of_next hn
  | event i => exact of_exec i hn
  | record issuer bytes =>
    cases e with
    | reservedCode n => exact (event (reservedEvent issuer) s).of_next hn
    | codeHighBits | shortRecord | eorByte | longRecord | noSynch | noForm | shortPacket | longPacket => cases hn

end OnlyAppends

/-- Beside taking the next arrival from the inbox, a step keeps `cfg` and `inbox` and only appends to `outs`. -/
theorem step_onlyAppends {s t : State} (hn : step s = .next t) : OnlyAppends { s with inbox := s.inbox.tail } t := by
  cases hinbox : s.inbox with
  | nil =>
    rw [step_of_inbox_nil hinbox] at hn
    have hsame : OnlyAppends { s with inbox := [] } s := ⟨rfl, hinbox, List.prefix_rfl⟩
    exact hsame.of_next hn
  | cons a more =>
    cases hdecode : decodeArrival a with
    | ok i =>
      rw [step_of_decoded hinbox hdecode] at hn
      exact .of_exec i hn
    | error e =>
      rw [step_of_undecoded hinbox hdecode] at hn
      exact .of_runUndecoded a e hn

/-- Settles O49, from what a step does to the three fields. -/
theorem stepAppendsOutputsAndKeepsParameters : Obligations.StepAppendsOutputsAndKeepsParameters := by
  intro s t hn
  obtain ⟨hcfg, hinbox, l, hl⟩ := step_onlyAppends hn
  exact ⟨hcfg, hinbox, l, hl.symm⟩

end Sys2Proof.Machine
end

section
/-! PROOFS of the family 10_state.md: the registers, their writers, and the invariants. A packet step is made of a few
operations (`KeptByPacket`), and a received byte moves the framer or runs a packet step (`ByteEffect`). What a property needs
to survive both is said once; the writers of the settings, the limit on `retry` and the invariants follow from that. -/

namespace Sys2Proof.Machine

open Sys2Proof.Spec

/-! ### The packets the block builds -/

/-- The header-only forms of R88 that the block transmits. -/
def HeaderForm (c l : Byte) : Prop :=
  formOf c l ∈ [some Form.syn, some .synack, some .ack, some .rst, some .rstack, some .finack]

theorem headerForm_syn : HeaderForm 0x80 0xFF := by unfold HeaderForm; decide
theorem headerForm_synack (an : Bool) : HeaderForm (mkCtl 0xC0 false an) 0xFF := by
  unfold HeaderForm; revert an; decide
theorem headerForm_ack (sn an : Bool) : HeaderForm (mkCtl 0x40 sn an) 0 := by
  unfold HeaderForm; revert sn an; decide
theorem headerForm_rst (sn : Bool) : HeaderForm (mkCtl 0x10 sn false) 0 := by
  unfold HeaderForm; revert sn; decide
theorem headerForm_rstack (sn an : Bool) : HeaderForm (mkCtl 0x50 sn an) 0 := by
  unfold HeaderForm; revert sn an; decide
theorem headerForm_finack (sn an : Bool) : HeaderForm (mkCtl 0x60 sn an) 0 := by
  unfold HeaderForm; revert sn an; decide

theorem HeaderForm.wirePacket {c l : Byte} (h : HeaderForm c l) (sel : CrcSel) : WirePacket sel (makeHeader c l) := by
  refine ⟨c, l, headerChecksum c l, [], rfl, headerOk_headerChecksum c l, ?_⟩
  simp only [HeaderForm, List.mem_cons, List.not_mem_nil, or_false] at h
  rcases h with h | h | h | h | h | h <;> rw [h]

theorem retransmittable_synack (an : Bool) : retransmittable (makeHeader (mkCtl 0xC0 false an) 0xFF) = true := by
  revert an; decide
theorem retransmittable_finack (sn an : Bool) : retransmittable (makeHeader (mkCtl 0x60 sn an) 0) = true := by
  revert sn an; decide

/-- A fragment is one byte, which the SO form carries, or 2 to 255 bytes. -/
theorem FragmentSize.cases {bytes : List Byte} (h : FragmentSize bytes) :
    (∃ b, bytes = [b]) ∨ (2 ≤ bytes.length ∧ bytes.length ≤ 255) := by
  obtain ⟨h1, h2⟩ := h
  unfold mdl at h2
  by_cases hone : bytes.length = 1
  · exact .inl (List.length_eq_one_iff.mp hone)
  · exact .inr ⟨by omega, h2⟩

theorem buildData_single (sel : CrcSel) (sn an eor : Bool) (b : Byte) :
    buildData sel sn an eor [b] = makeHeader (dataCtl 0x40 sn an eor ||| 0x01) b := rfl

theorem buildData_of_two_le {bytes : List Byte} (h : 2 ≤ bytes.length) (sel : CrcSel) (sn an eor : Bool) :
    buildData sel sn an eor bytes =
      makeHeader (dataCtl 0x40 sn an eor) (lenByte bytes) ++ bytes ++ crcBytes (crc16 sel bytes) := by
  match bytes, h with
  | _ :: _ :: _, _ => rfl

theorem toNat_lenByte {bytes : List Byte} (h : bytes.length ≤ 255) : (lenByte bytes).toNat = bytes.length :=
  Nat.mod_eq_of_lt (by omega)

theorem formOf_data1 (sn an eor : Bool) (b : Byte) :
    formOf (dataCtl 0x40 sn an eor ||| 0x01) b = some .data1 := by
  cases sn <;> cases an <;> cases eor <;> simp [formOf, dataCtl, mkCtl, bitAt]

theorem formOf_data (sn an eor : Bool) {l : Byte} (h : 2 ≤ l.toNat) :
    formOf (dataCtl 0x40 sn an eor) l = some .data := by
  have hl : l ≠ 0 := by rintro rfl; simp at h
  cases sn <;> cases an <;> cases eor <;> simp_all [formOf, dataCtl, mkCtl, bitAt]

theorem hasData_dataCtl_so (sn an eor : Bool) (b : Byte) : hasData (dataCtl 0x40 sn an eor ||| 0x01) b = true := by
  cases sn <;> cases an <;> cases eor <;> simp [hasData, ctlSo, dataCtl, mkCtl, bitAt]

theorem hasData_dataCtl (sn an eor : Bool) {l : Byte} (h : l ≠ 0) : hasData (dataCtl 0x40 sn an eor) l = true := by
  cases sn <;> cases an <;> cases eor <;> simpa [hasData, ctlSo, dataCtl, mkCtl, bitAt] using h

theorem lenByte_ne_zero {bytes : List Byte} (h : FragmentSize bytes) : lenByte bytes ≠ 0 := by
  intro h0
  have hlen := toNat_lenByte h.2
  have := h.1
  simp [h0] at hlen
  omega

/-- What `build_data` builds is a packet of a transmitted form (R88, R115). -/
theorem wirePacket_buildData {bytes : List Byte} (h : FragmentSize bytes) (sel : CrcSel) (sn an eor : Bool) :
    WirePacket sel (buildData sel sn an eor bytes) := by
  obtain ⟨b, rfl⟩ | ⟨h2, h255⟩ := h.cases
  · refine ⟨_, b, _, [], buildData_single sel sn an eor b, headerOk_headerChecksum _ _, ?_⟩
    rw [formOf_data1]
  · refine ⟨dataCtl 0x40 sn an eor, lenByte bytes, _, bytes ++ crcBytes (crc16 sel bytes), ?_,
      headerOk_headerChecksum _ _, ?_⟩
    · rw [buildData_of_two_le h2, List.append_assoc]
      rfl
    · rw [formOf_data sn an eor (by rw [toNat_lenByte h255]; exact h2)]
      exact ⟨bytes, (toNat_lenByte h255).symm, rfl⟩

theorem retransmittable_buildData {bytes : List Byte} (h : FragmentSize bytes) (sel : CrcSel) (sn an eor : Bool) :
    retransmittable (buildData sel sn an eor bytes) = true := by
  obtain ⟨b, rfl⟩ | ⟨h2, -⟩ := h.cases
  · rw [buildData_single, retransmittable_makeHeader, hasData_dataCtl_so, Bool.true_or]
  · rw [buildData_of_two_le h2]
    exact Bool.or_eq_true_iff.mpr (.inl (hasData_dataCtl sn an eor (lenByte_ne_zero h)))

theorem buildData_length_le {bytes : List Byte} (h : FragmentSize bytes) (sel : CrcSel) (sn an eor : Bool) :
    (buildData sel sn an eor bytes).length ≤ rtxBufSize := by
  obtain ⟨b, rfl⟩ | ⟨h2, h255⟩ := h.cases
  · rw [buildData_single, makeHeader_length]
    decide
  · rw [buildData_of_two_le h2]
    simp [crcBytes, rtxBufSize]
    omega

/-! ### What the packet procedures are made of (R143 to R162) -/

/-- The three codes that Fail stores (R256). -/
def Code.fatal (code : Code) : Prop := code = .connectionRefused ∨ code = .connectionReset ∨ code = .timeout

theorem Code.fatal_refused : Code.connectionRefused.fatal := .inl rfl
theorem Code.fatal_reset : Code.connectionReset.fatal := .inr (.inl rfl)
theorem Code.fatal_timeout : Code.timeout.fatal := .inr (.inr rfl)

/-- `P` is kept by every operation that the procedures run for the packet `p` at `now`: what can happen to the registers
in a packet step, said once. -/
structure KeptByPacket (p : Pkt) (now : Time) (P : State → Prop) : Prop where
  emit : ∀ {s} q, P s → P (emit q s)
  sendHeader : ∀ {s} c l, HeaderForm c l → P s → P (sendSeg (makeHeader c l) now false s)
  ackAccepted : ∀ {s}, P s → P (ackAccepted now s)
  fail : ∀ {s code}, code.fatal → P s → P (fail code s)
  dispatch : ∀ {s}, P s → P (dispatch now s)
  store : ∀ {s}, pktHasData p = true → queueFull s.cfg.rxqDepth s.rxq.length = false → P s →
    P { s with rxq := s.rxq ++ [⟨p.bytes, pktEor p⟩] }
  move : ∀ {s} conn snSent snReceived, P s → P { s with conn := conn, snSent := snSent, snReceived := snReceived }
  stampTimeWait : ∀ {s}, P s → P { s with twTs := now }
  dropSlot : ∀ {s}, P s → P { s with rtxValid := false, retry := 0 }

namespace KeptByPacket

variable {p : Pkt} {now : Time} {P : State → Prop} {s : State}

theorem ite {c : Prop} [Decidable c] {t u : State} (ht : P t) (hu : P u) : P (if c then t else u) := by
  split
  · exact ht
  · exact hu

theorem iteVerdict {c : Prop} [Decidable c] {v w : Verdict} (hv : P v.state) (hw : P w.state) :
    P (if c then v else w).state := by
  split
  · exact hv
  · exact hw

theorem iteVerdict_of {c : Prop} [Decidable c] {v w : Verdict} (hv : c → P v.state) (hw : ¬c → P w.state) :
    P (if c then v else w).state := by
  split
  · next h => exact hv h
  · next h => exact hw h

variable (K : KeptByPacket p now P)
include K

theorem ackReply (h : P s) : P (ackReply p now s) := K.sendHeader _ _ (headerForm_ack _ _) h

theorem rstReply (h : P s) : P (rstReply p now s) := K.sendHeader _ _ (headerForm_rst _) h

theorem answerSyn (h : P s) : P (answerSyn p now s) :=
  K.move _ _ _ (K.sendHeader _ _ (headerForm_synack _) (K.move s.conn s.snSent _ h))

theorem dispatchOrAck (h : P s) : P (if dispatchReady s then Machine.dispatch now s else Machine.ackReply p now s) :=
  ite (K.dispatch h) (K.ackReply h)

theorem completeOpen (h : P s) : P (completeOpen p now s) :=
  K.dispatchOrAck (K.move .established _ _ (K.ackAccepted (K.move s.conn s.snSent (pktSn p) h)))

/-- An accepted fragment is stored and its SN recorded (R162). -/
theorem accept (hd : pktHasData p = true) (hroom : queueFull s.cfg.rxqDepth s.rxq.length = false) (h : P s) :
    P { s with rxq := s.rxq ++ [⟨p.bytes, pktEor p⟩], snReceived := pktSn p } :=
  K.move s.conn s.snSent (pktSn p) (K.store hd hroom h)

theorem afterAck (h : P s) : P (afterAck p now s) := ite (K.ackAccepted h) h

/-- Each of the nineteen procedures, branch by branch in the order of its definition. -/
theorem runProc (f : Proc) (h : P s) : P (runProc f p now s).state := by
  cases f with
  | a => exact iteVerdict h (iteVerdict (K.rstReply h) (iteVerdict (K.answerSyn h) h))
  | b =>
    exact iteVerdict (ite h (K.rstReply h))
      (iteVerdict (K.fail Code.fatal_refused h) (iteVerdict (ite (K.completeOpen h) (K.answerSyn h)) h))
  | c1 => exact iteVerdict h (iteVerdict h (K.ackReply h))
  | c2 =>
    exact iteVerdict h
      (iteVerdict h (iteVerdict (K.fail Code.fatal_reset (K.rstReply h)) (K.ackReply h)))
  | d1 =>
    exact iteVerdict h
      (iteVerdict (K.move .listen s.snSent s.snReceived (K.dropSlot h)) (K.fail Code.fatal_refused h))
  | d2 | d3 => exact iteVerdict h (K.fail Code.fatal_reset h)
  | e => exact iteVerdict h (K.fail Code.fatal_reset (K.rstReply h))
  | f1 =>
    exact iteVerdict h (iteVerdict (K.ackAccepted h)
      (iteVerdict (K.move .listen _ _ (K.rstReply h)) (K.fail Code.fatal_refused (K.rstReply h))))
  | f2 | f3 => exact iteVerdict h (iteVerdict (K.ackAccepted h) h)
  | g => exact iteVerdict h (iteVerdict (K.emit _ h) (K.emit _ h))
  | h1 => exact K.move .established s.snSent s.snReceived h
  | h2 =>
    exact iteVerdict h
      (K.move .lastAck (pktAn p) _ (K.sendHeader _ _ (headerForm_finack _ _) (K.move s.conn s.snSent (pktSn p) h)))
  | h3 =>
    exact iteVerdict h
      (iteVerdict (K.fail Code.fatal_reset (K.sendHeader _ _ (headerForm_rstack _ _) h))
        (iteVerdict (K.move .timeWait _ _ (K.stampTimeWait (K.ackReply h))) (K.move .closing _ _ (K.ackReply h))))
  | h4 => exact iteVerdict (K.fail Code.fatal_reset h) h
  | h5 => exact iteVerdict (K.move .timeWait s.snSent s.snReceived (K.stampTimeWait h)) h
  | h6 => exact iteVerdict (K.stampTimeWait (K.ackReply h)) h
  | i1 =>
    refine iteVerdict_of (fun _ => h) fun hd => iteVerdict_of (fun _ => h) fun hroom => ?_
    exact K.dispatchOrAck (K.accept (by simpa using hd) (by simpa using hroom) h)

theorem runProcs (l : List Proc) (h : P s) : P (runProcs l p now s) := by
  induction l generalizing s with
  | nil => exact h
  | cons f rest ih =>
    have hf := K.runProc f h
    rw [runProcs_cons]
    cases hv : Machine.runProc f p now s with
    | stop t =>
      rw [hv] at hf
      exact hf
    | cont t =>
      rw [hv] at hf
      exact ih hf

theorem packetStep (h : P s) : P (packetStep p now s) := K.runProcs _ h

end KeptByPacket

/-! ### What one byte can do (R120 to R129) -/

/-- The framer's registers (R34) are in order. -/
structure FramerSound (s : State) : Prop where
  fits : FramerFits s
  payForm : s.rxPay.wf rxPaySize = true

/-- A state that is `s` with other framer registers; if those of `s` were in order, the new ones are. -/
inductive FramerMove (s : State) : State → Prop
  | intro (ph : RxPhase) (c l : Byte) (pay : Memory) (cnt : BitVec 8) (hi : Byte)
      (sound : FramerSound s →
        FramerSound { s with rxPhase := ph, rxCtl := c, rxLen := l, rxPay := pay, rxCnt := cnt, rxCrcHi := hi }) :
      FramerMove s { s with rxPhase := ph, rxCtl := c, rxLen := l, rxPay := pay, rxCnt := cnt, rxCrcHi := hi }

/-- What one byte can do: move the framer, or complete a packet and run the packet step. A packet that carries data
carries 1 to 255 bytes. -/
inductive ByteEffect (now : Time) (s : State) : State → Prop
  | moved {t : State} (h : FramerMove s t) : ByteEffect now s t
  | packet {t : State} (bytes : List Byte) (h : FramerMove s t)
      (size : FramerSound s → hasData t.rxCtl t.rxLen = true → FragmentSize bytes) :
      ByteEffect now s (packetStep ⟨t.rxCtl, t.rxLen, bytes⟩ now t)

namespace FramerMove

variable {s : State}

theorem same (s : State) : FramerMove s s := .intro _ _ _ _ _ _ id

/-- In the phases that await a header byte no register is constrained. -/
theorem toHeader (ph : RxPhase) (c l : Byte) (hph : ph = .hunt ∨ ph = .ctl ∨ ph = .len ∨ ph = .cks) :
    FramerMove s { s with rxPhase := ph, rxCtl := c, rxLen := l } :=
  .intro _ _ _ _ _ _ fun h => ⟨by rcases hph with rfl | rfl | rfl | rfl <;> trivial, h.payForm⟩

theorem toHunt : FramerMove s { s with rxPhase := .hunt } := toHeader .hunt s.rxCtl s.rxLen (.inl rfl)

end FramerMove

theorem byteEffect_handOver {s t : State} (now : Time) (bytes : List Byte) (h : FramerMove s { t with rxPhase := .hunt })
    (size : FramerSound s → hasData t.rxCtl t.rxLen = true → FragmentSize bytes) :
    ByteEffect now s (handOver bytes now t) :=
  .packet bytes h size

/-- Nothing follows a header that carries its byte itself or announces no data (R117). -/
theorem follow_eq_zero_iff (c l : Byte) : follow c l = (0, 0) ↔ ctlSo c = true ∨ hasData c l = false := by
  cases hso : ctlSo c
  · cases hdata : hasData c l
    · simp [follow, hdata]
    · have hne : (if l == 1 then (1, 0) else (l.toNat, 2)) ≠ (0, 0) := by split <;> simp
      simpa [follow, hso, hdata] using hne
  · simp [follow, hso]

theorem ne_zero_of_hasData {c l : Byte} (hso : ctlSo c = false) (h : hasData c l = true) : l ≠ 0 := by
  rintro rfl
  simp [hasData, hso] at h

theorem payBytes_length (n : Nat) (s : State) : (payBytes n s).length = n := Memory.readBytes_length _ _ _

theorem byteEffect_checksum (byte : Byte) (now : Time) (s : State) : ByteEffect now s (rxChecksum byte now s) := by
  unfold rxChecksum
  split
  · exact .moved .toHunt
  · split
    · next hfollow =>
      refine byteEffect_handOver now _ .toHunt fun _ hdata => ?_
      have hso : ctlSo s.rxCtl = true := by
        simpa [hdata] using (follow_eq_zero_iff _ _).mp hfollow
      simp [payloadOf, hso, FragmentSize, mdl]
    · next hfollow =>
      refine .moved (.intro _ _ _ _ _ _ fun h => ⟨?_, h.payForm⟩)
      have hannounced : ctlSo s.rxCtl = false ∧ hasData s.rxCtl s.rxLen = true := by
        simpa using mt (follow_eq_zero_iff _ _).mpr hfollow
      obtain ⟨hso, hdata⟩ := hannounced
      exact ⟨hso, hdata, BitVec.toNat_pos_of_ne_zero (ne_zero_of_hasData hso hdata)⟩

theorem FragmentSize.payBytes {n : Nat} (h1 : 1 ≤ n) (h2 : n ≤ 255) (s : State) : FragmentSize (payBytes n s) := by
  rw [FragmentSize, payBytes_length]
  exact ⟨h1, h2⟩

/-- A payload byte goes to its index; the last one ends the payload (R125). -/
theorem byteEffect_payload (byte : Byte) (now : Time) {s : State} (hphase : s.rxPhase = .pay) :
    ByteEffect now s (rxPayload byte now s) := by
  have announced (h : FramerSound s) :
      ctlSo s.rxCtl = false ∧ hasData s.rxCtl s.rxLen = true ∧ s.rxCnt.toNat < s.rxLen.toNat := by
    simpa [FramerFits, hphase] using h.fits
  have payForm (h : FramerSound s) : (s.rxPay.write s.rxCnt.toNat byte).wf rxPaySize = true := by
    obtain ⟨-, -, hcnt⟩ := announced h
    exact Memory.write_wf h.payForm (Nat.lt_of_lt_of_le hcnt (Nat.le_of_lt_succ s.rxLen.isLt))
  unfold rxPayload
  dsimp only
  split
  · next hlast =>
    split
    · next hlong =>
      refine .moved (.intro _ _ _ _ _ _ fun h => ⟨?_, payForm h⟩)
      obtain ⟨hso, hdata, -⟩ := announced h
      exact ⟨hso, hdata, hlong⟩
    · exact byteEffect_handOver now _ (.intro _ _ _ _ _ _ fun h => ⟨trivial, payForm h⟩) fun _ _ =>
        .payBytes le_rfl (by decide) _
  · next hmore =>
    refine .moved (.intro _ _ _ _ _ _ fun h => ⟨?_, payForm h⟩)
    obtain ⟨hso, hdata, hcnt⟩ := announced h
    simp only [FramerFits, hphase]
    exact ⟨hso, hdata, by bv_omega⟩

/-- The CRC's second byte drops the packet or hands it over (R127). -/
theorem byteEffect_crcLow (byte : Byte) (now : Time) {s : State} (hphase : s.rxPhase = .crcl) :
    ByteEffect now s (rxCrcLow byte now s) := by
  unfold rxCrcLow
  split
  · refine byteEffect_handOver now _ .toHunt fun h _ => ?_
    have hfits : ctlSo s.rxCtl = false ∧ hasData s.rxCtl s.rxLen = true ∧ 2 ≤ s.rxLen.toNat := by
      simpa [FramerFits, hphase] using h.fits
    obtain ⟨-, -, hlen⟩ := hfits
    exact .payBytes (by omega) (Nat.le_of_lt_succ s.rxLen.isLt) s
  · exact .moved .toHunt

/-- One byte, in each of the framer's seven phases (R121 to R127). -/
theorem byteEffect_rxPhaseStep (byte : Byte) (now : Time) (s : State) : ByteEffect now s (rxPhaseStep byte now s) := by
  unfold rxPhaseStep
  split
  · unfold rxHunt
    split
    · exact .moved (.toHeader .ctl s.rxCtl s.rxLen (by simp))
    · exact .moved (.same s)
  · exact .moved (.toHeader .len byte s.rxLen (by simp))
  · exact .moved (.toHeader .cks s.rxCtl byte (by simp))
  · exact byteEffect_checksum byte now s
  · next hphase => exact byteEffect_payload byte now hphase
  · next hphase =>
    refine .moved (.intro _ _ _ _ _ _ fun h => ⟨?_, h.payForm⟩)
    simpa [FramerFits, hphase, rxCrcHigh] using h.fits
  · next hphase => exact byteEffect_crcLow byte now hphase

theorem framerMove_byteTimeout (now : Time) (s : State) : FramerMove s (byteTimeout now s) := by
  unfold byteTimeout
  split
  · exact .toHunt
  · exact .same s

/-- A property holds after a byte that arrives while `open` = 1 when the framer's moves, the stamp and the packet step keep
it. The packet's payload has the size of a fragment if the framer's registers were in order before. -/
theorem rxByteAt_induction {P : State → Prop} {byte : Byte} {now : Time} {s : State} (h : P s)
    (hmove : ∀ {t u}, FramerMove t u → P t → P u) (hstamp : ∀ {t}, P t → P { t with rxTs := now })
    (hpacket : ∀ {p r t}, P r → (FramerSound r → pktHasData p = true → FragmentSize p.bytes) → P t →
      P (packetStep p now t)) :
    P (rxByteAt byte now s) := by
  have hs : P { byteTimeout now s with rxTs := now } := hstamp (hmove (framerMove_byteTimeout now s) h)
  have heffect := byteEffect_rxPhaseStep byte now { byteTimeout now s with rxTs := now }
  unfold rxByteAt
  revert heffect
  generalize rxPhaseStep byte now { byteTimeout now s with rxTs := now } = u
  rintro (hm | ⟨bytes, hm, hsize⟩)
  · exact hmove hm hs
  · exact hpacket hs hsize (hmove hm hs)

/-- A property that each byte's event keeps is kept by the reception of any bytes (R100). -/
theorem receive_induction {P : State → Prop} {now : Time} (hbyte : ∀ {s} byte, P s → P (event (rxByte byte now) s))
    (bytes : List Byte) {s : State} (h : P s) : P (receive bytes now s) := by
  induction bytes generalizing s with
  | nil => exact h
  | cons b rest ih => exact ih (hbyte b h)

/-! ### What an instruction does -/

theorem eq_event_of_runEvent {f : State → State} {s t : State} (hn : runEvent f s = .next t) : t = event f s :=
  (Host.Outcome.next.inj hn).symm

/-- A command that has a next state was presented at `busy` = 0 (log 7). -/
theorem eq_event_of_runCommand {f : State → State} {s t : State} (hn : runCommand f s = .next t) : t = event f s := by
  unfold runCommand at hn
  split at hn
  · cases hn
  · exact (Host.Outcome.next.inj hn).symm

/-- The next states of the rows of the table: a packet form is the reception of its bytes (R100), an event runs its meaning
from `busy` = 1 to `busy` = 0 (R35). -/
inductive RowEffect (s : State) : Instr → State → Prop
  | received {i : Instr} (hi : fromChannel i = true) (bytes : List Byte) (now : Time) : RowEffect s i (receive bytes now s)
  | opena (now : Time) : RowEffect s (.opena now) (event (cmdOpenActive now) s)
  | openp (now : Time) : RowEffect s (.openp now) (event cmdOpenPassive s)
  | txpush (now : Time) (eor : Bool) (tag : Tag) (bytes : List Byte) :
      RowEffect s (.txpush now eor tag bytes) (event (cmdPush bytes eor tag) s)
  | rxpop (now : Time) : RowEffect s (.rxpop now) (event cmdPop s)
  | close (now : Time) : RowEffect s (.close now) (event (cmdClose now) s)
  | release (now : Time) : RowEffect s (.release now) (event cmdRelease s)
  | wrcfg (now : Time) (value : Byte) : RowEffect s (.wrcfg now value) (event (cmdWriteConfig value) s)
  | rxb (now : Time) (byte : Byte) : RowEffect s (.rxb now byte) (event (rxByte byte now) s)
  | tmr (now : Time) : RowEffect s (.tmr now) (event (timerCheck now) s)
  | dsp (now : Time) : RowEffect s (.dsp now) (event (dispatchCheck now) s)

theorem rowEffect_of_exec {i : Instr} {s t : State} (hn : exec i s = .next t) : RowEffect s i t := by
  cases i with
  | syn now k | synack now an k | ack now sn an k | rst now sn k | rstack now sn an k | finack now sn an k
  | data now sn an eor k payload crc | data1 now sn an eor b k | datap1 now ackf sn an eor k b =>
    exact Host.Outcome.next.inj hn ▸ .received rfl _ now
  | opena now => exact eq_event_of_runCommand hn ▸ .opena now
  | openp now => exact eq_event_of_runCommand hn ▸ .openp now
  | txpush now eor tag bytes => exact eq_event_of_runCommand hn ▸ .txpush now eor tag bytes
  | rxpop now => exact eq_event_of_runCommand hn ▸ .rxpop now
  | close now => exact eq_event_of_runCommand hn ▸ .close now
  | release now => exact eq_event_of_runCommand hn ▸ .release now
  | wrcfg now value => exact eq_event_of_runCommand hn ▸ .wrcfg now value
  | rxb now byte => exact eq_event_of_runEvent hn ▸ .rxb now byte
  | tmr now => exact eq_event_of_runEvent hn ▸ .tmr now
  | dsp now => exact eq_event_of_runEvent hn ▸ .dsp now

theorem isWrcfg_of_fromChannel {i : Instr} (hi : fromChannel i = true) : isWrcfg i = false := by
  cases i with
  | wrcfg now value => cases hi
  | _ => rfl

/-! ### The settings of a connection: `max_retries` and `active` (R23, R28), and the count `retry` (R27) -/

/-- `max_retries` and `active` of `t` are those of `s`. -/
structure SettingsKept (s t : State) : Prop where
  maxRetries : t.maxRetries = s.maxRetries
  active : t.active = s.active

/-- Beside that, `retry` is as it was or has restarted. -/
structure RetryKept (s t : State) : Prop extends SettingsKept s t where
  retry : t.retry = s.retry ∨ t.retry = 0

namespace SettingsKept

variable {s t u : State}

@[refl] theorem refl (s : State) : SettingsKept s s := ⟨rfl, rfl⟩

@[trans] theorem trans (h : SettingsKept s t) (h' : SettingsKept t u) : SettingsKept s u :=
  ⟨h'.maxRetries.trans h.maxRetries, h'.active.trans h.active⟩

theorem of_framerMove (h : FramerMove s t) : SettingsKept s t := by
  cases h
  exact ⟨rfl, rfl⟩

theorem fail (code : Code) (s : State) : SettingsKept s (fail code s) := ⟨by simp, by simp⟩

theorem ite {c : Prop} [Decidable c] (ht : SettingsKept s t) (hu : SettingsKept s u) :
    SettingsKept s (if c then t else u) := by
  split
  · exact ht
  · exact hu

theorem event {f : State → State} (hf : ∀ x, SettingsKept x (f x)) (s : State) : SettingsKept s (event f s) :=
  ⟨(hf { s with busy := true }).maxRetries, (hf { s with busy := true }).active⟩

end SettingsKept

namespace RetryKept

variable {s t u : State}

@[refl] theorem refl (s : State) : RetryKept s s := ⟨.refl s, .inl rfl⟩

@[trans] theorem trans (h : RetryKept s t) (h' : RetryKept t u) : RetryKept s u :=
  ⟨h.toSettingsKept.trans h'.toSettingsKept, by
    rcases h'.retry with hr | hr
    · rw [hr]
      exact h.retry
    · exact .inr hr⟩

theorem sendSeg (p : List Byte) (now : Time) (own : Bool) (s : State) : RetryKept s (sendSeg p now own s) where
  maxRetries := sendSeg_maxRetries p now own s
  active := sendSeg_active p now own s
  retry := by
    unfold Machine.sendSeg
    split
    · exact .inr rfl
    · exact .inl rfl

theorem ackAccepted (now : Time) (s : State) : RetryKept s (ackAccepted now s) where
  maxRetries := ackAccepted_maxRetries now s
  active := ackAccepted_active now s
  retry := by
    unfold Machine.ackAccepted
    split
    · exact .inr (by simp)
    · exact .inl (by simp)

theorem fail (code : Code) (s : State) : RetryKept s (fail code s) := ⟨.fail code s, .inl (fail_retry code s)⟩

theorem dispatch (now : Time) (s : State) : RetryKept s (dispatch now s) := by
  cases hq : s.txq with
  | nil =>
    simp only [Machine.dispatch, hq]
    rfl
  | cons e rest =>
    rw [dispatch_cons hq]
    exact { sendSeg _ now true { s with txq := rest, curValid := true, curTag := e.tag, snSent := !s.snSent } with }

theorem keptByPacket (p : Pkt) (now : Time) (s : State) : KeptByPacket p now (RetryKept s) where
  emit _ h := { h with }
  sendHeader _ _ _ h := h.trans (sendSeg _ now false _)
  ackAccepted h := h.trans (ackAccepted now _)
  fail _ h := h.trans (fail _ _)
  dispatch h := h.trans (dispatch now _)
  store _ _ h := { h with }
  move _ _ _ h := { h with }
  stampTimeWait h := { h with }
  dropSlot h := { h with retry := .inr rfl }

theorem packetStep (p : Pkt) (now : Time) (s : State) : RetryKept s (packetStep p now s) :=
  (keptByPacket p now s).packetStep (.refl s)

theorem event {f : State → State} (hf : ∀ x, RetryKept x (f x)) (s : State) : RetryKept s (event f s) :=
  { hf { s with busy := true } with }

theorem dispatchCheck (now : Time) (s : State) : RetryKept s (dispatchCheck now s) := by
  unfold Machine.dispatchCheck
  split
  · exact dispatch _ s
  · rfl

theorem cmdPush (bytes : List Byte) (eor : Bool) (tag : Tag) (s : State) : RetryKept s (cmdPush bytes eor tag s) := by
  have hsame : RetryKept s s := .refl s
  unfold Machine.cmdPush
  split
  · exact { hsame with }
  · split
    · exact { hsame with }
    · split <;> exact { hsame with }

theorem cmdPop (s : State) : RetryKept s (cmdPop s) := by
  have hsame : RetryKept s s := .refl s
  unfold Machine.cmdPop
  split <;> exact { hsame with }

theorem startClose (now : Time) (s : State) : RetryKept s (startClose now s) :=
  { sendSeg (makeHeader (mkCtl 0x60 (!s.snSent) (!s.snReceived)) 0) now false { s with snSent := !s.snSent } with }

theorem cmdClose (now : Time) (s : State) : RetryKept s (cmdClose now s) := by
  unfold Machine.cmdClose
  split
  · exact { startClose (sampled s now) s with }
  · exact { refl s with }

end RetryKept

/-! ### The writers of `max_retries` and `active` -/

namespace SettingsKept

variable {s t : State}

theorem rxByte (byte : Byte) (now : Time) (s : State) : SettingsKept s (rxByte byte now s) :=
  .ite
    (rxByteAt_induction (P := SettingsKept s) (.refl s) (fun hm h => h.trans (.of_framerMove hm)) (fun h => { h with })
      (fun _ _ h => h.trans (RetryKept.packetStep _ _ _).toSettingsKept))
    (.refl s)

theorem receive (bytes : List Byte) (now : Time) (s : State) : SettingsKept s (receive bytes now s) :=
  receive_induction (fun byte h => h.trans (event (rxByte byte now) _)) bytes (.refl s)

theorem timeWaitCheck (now : Time) (s : State) : SettingsKept s (timeWaitCheck now s) := .ite (.fail _ s) (.refl s)

theorem retryLimit (s : State) : SettingsKept s (retryLimit s) := .ite (.fail _ s) (.refl s)

theorem retransmitCheck (now : Time) (s : State) : SettingsKept s (retransmitCheck now s) :=
  .ite (trans (t := resend now s) ⟨rfl, rfl⟩ (retryLimit _)) (.refl s)

theorem timerCheck (now : Time) (s : State) : SettingsKept s (timerCheck now s) :=
  .ite
    (((of_framerMove (framerMove_byteTimeout _ s)).trans (timeWaitCheck _ _)).trans (retransmitCheck _ _))
    (.refl s)

end SettingsKept

theorem cmdOpenActive_active {s : State} (h : s.opened = true) (now : Time) :
    (cmdOpenActive now s).active = s.active := by
  rw [cmdOpenActive, if_pos h, respond_active]

theorem cmdOpenPassive_active {s : State} (h : s.opened = true) : (cmdOpenPassive s).active = s.active := by
  rw [cmdOpenPassive, if_pos h, respond_active]

theorem cmdOpenActive_maxRetries (now : Time) (s : State) : (cmdOpenActive now s).maxRetries = s.maxRetries := by
  unfold cmdOpenActive
  split
  · rfl
  · exact sendSeg_maxRetries _ _ _ _

theorem cmdOpenPassive_maxRetries (s : State) : (cmdOpenPassive s).maxRetries = s.maxRetries := by
  unfold cmdOpenPassive
  split <;> rfl

theorem giveUpQueue_maxRetries (q : List TxEntry) (s : State) : (giveUpQueue q s).maxRetries = s.maxRetries := by
  induction q generalizing s with
  | nil => rfl
  | cons e rest ih => exact ih _

theorem cmdRelease_maxRetries (s : State) : (cmdRelease s).maxRetries = s.maxRetries := by
  unfold cmdRelease
  split
  · exact (giveUpQueue_maxRetries _ _).trans (settle_maxRetries _ _)
  · rfl

/-- What O51 asks of an instruction other than WRCFG follows where both settings are kept. -/
theorem SettingsKept.oneWriter {i : Instr} {s t : State} (h : SettingsKept s t) (hi : isWrcfg i = false) :
    (∀ now v, i = .wrcfg now v → t.maxRetries = v) ∧ (isWrcfg i = false → t.maxRetries = s.maxRetries) ∧
      (s.opened = true → isRelease i = false → t.active = s.active) := by
  refine ⟨?_, fun _ => h.maxRetries, fun _ _ => h.active⟩
  rintro now v rfl
  cases hi

/-- Settles O51, by what each row does: beside the commands that open, release and configure, every instruction keeps both
settings. -/
theorem configurationRegistersHaveOneWriter : Obligations.ConfigurationRegistersHaveOneWriter := by
  intro i s t hn
  cases rowEffect_of_exec hn with
  | received hi bytes now => exact (SettingsKept.receive bytes now s).oneWriter (isWrcfg_of_fromChannel hi)
  | rxb now byte => exact (SettingsKept.event (.rxByte byte now) s).oneWriter rfl
  | tmr now => exact (SettingsKept.event (.timerCheck now) s).oneWriter rfl
  | dsp now => exact (RetryKept.event (.dispatchCheck now) s).oneWriter rfl
  | txpush now eor tag bytes => exact (RetryKept.event (.cmdPush bytes eor tag) s).oneWriter rfl
  | rxpop now => exact (RetryKept.event .cmdPop s).oneWriter rfl
  | close now => exact (RetryKept.event (.cmdClose now) s).oneWriter rfl
  | opena now =>
    refine ⟨nofun, fun _ => cmdOpenActive_maxRetries now _, fun hopen _ => ?_⟩
    exact cmdOpenActive_active (s := { s with busy := true }) hopen now
  | openp now =>
    refine ⟨nofun, fun _ => cmdOpenPassive_maxRetries _, fun hopen _ => ?_⟩
    exact cmdOpenPassive_active (s := { s with busy := true }) hopen
  | release now => exact ⟨nofun, fun _ => cmdRelease_maxRetries _, fun _ hi => nomatch hi⟩
  | wrcfg now value =>
    refine ⟨?_, nofun, fun _ _ => rfl⟩
    rintro _ _ ⟨⟩
    rfl

/-! ### The count of retransmissions (R41 (vii)) -/

/-- While the connection is not closed, `retry` is within the limit. -/
def RetryFits (s : State) : Prop := s.conn ≠ .closed → s.retry.toNat ≤ max s.maxRetries.toNat 1

namespace RetryFits

variable {s t : State}

theorem of_closed (h : s.conn = .closed) : RetryFits s := absurd h

theorem of_restarted (h : s.retry = 0) : RetryFits s := by
  intro _
  simp [h]

/-- Where `retry` is kept, it stays within the limit, as long as nothing leaves CLOSED. -/
theorem of_retryKept (h : RetryFits s) (hk : RetryKept s t) (hclosed : s.conn = .closed → t.conn = .closed) :
    RetryFits t := by
  rcases hk.retry with hr | hr
  · intro hconn
    rw [hr, hk.maxRetries]
    exact h (mt hclosed hconn)
  · exact of_restarted hr

theorem congr (h : RetryFits s) (hconn : t.conn = s.conn := by rfl) (hretry : t.retry = s.retry := by rfl)
    (hmax : t.maxRetries = s.maxRetries := by rfl) : RetryFits t := by
  unfold RetryFits
  rw [hconn, hretry, hmax]
  exact h

theorem ite {c : Prop} [Decidable c] (ht : c → RetryFits s) (hu : ¬c → RetryFits t) : RetryFits (if c then s else t) := by
  split
  · next h => exact ht h
  · next h => exact hu h

theorem fail (code : Code) (s : State) : RetryFits (fail code s) := of_closed (fail_conn code s)

end RetryFits

/-- CLOSED is kept by every packet: procedure G answers and changes nothing else (R155, R171). -/
theorem packetStep_conn_of_closed {s : State} (h : s.conn = .closed) (p : Pkt) (now : Time) :
    (packetStep p now s).conn = .closed := by
  unfold packetStep
  rw [h, procList, runProcs_single, runProc]
  unfold procG
  split
  · exact h
  · split <;> exact h

theorem dispatch_conn (now : Time) (s : State) : (dispatch now s).conn = s.conn := by
  cases hq : s.txq with
  | nil => simp [dispatch, hq]
  | cons e rest => simp [dispatch_cons hq]

namespace RetryFits

variable {s : State}

theorem framerMove {t : State} (h : RetryFits s) (hm : FramerMove s t) : RetryFits t := by
  cases hm
  exact h.congr

theorem rxByte (h : RetryFits s) (byte : Byte) (now : Time) : RetryFits (rxByte byte now s) :=
  .ite
    (fun _ => rxByteAt_induction h (fun hm h => h.framerMove hm) (fun h => h.congr) fun _ _ h =>
      h.of_retryKept (.packetStep _ _ _) fun hclosed => packetStep_conn_of_closed hclosed _ _)
    (fun _ => h)

theorem event {f : State → State} (hf : ∀ {x}, RetryFits x → RetryFits (f x)) (h : RetryFits s) :
    RetryFits (event f s) :=
  (hf (x := { s with busy := true }) h.congr).congr

theorem receive (h : RetryFits s) (bytes : List Byte) (now : Time) : RetryFits (receive bytes now s) :=
  receive_induction (fun byte h => h.event fun h => h.rxByte byte now) bytes h

/-- Below the limit there is room for one more retransmission; at the limit the connection fails (R198). -/
theorem retryLimit (s : State) : RetryFits (retryLimit s) :=
  .ite (fun _ => .fail _ s) fun hbelow _ => by omega

theorem timerCheck (h : RetryFits s) (now : Time) : RetryFits (timerCheck now s) := by
  have htimeout : RetryFits (byteTimeout (sampled s now) s) := h.framerMove (framerMove_byteTimeout _ s)
  have hwait : RetryFits (timeWaitCheck (sampled s now) (byteTimeout (sampled s now) s)) :=
    .ite (fun _ => .fail _ _) fun _ => htimeout
  exact .ite (fun _ => .ite (fun _ => .retryLimit _) fun _ => hwait) fun _ => h

theorem dispatchCheck (h : RetryFits s) (now : Time) : RetryFits (dispatchCheck now s) :=
  .ite (fun _ => h.of_retryKept (.dispatch _ s) fun hclosed => (dispatch_conn _ s).trans hclosed) fun _ => h

theorem cmdOpenActive (h : RetryFits s) (now : Time) : RetryFits (cmdOpenActive now s) := by
  refine .ite (fun _ => h.congr) fun _ => of_restarted ?_
  have hk := RetryKept.sendSeg (makeHeader 0x80 0xFF) (sampled s now) false
    { resetTcb s with opened := true, active := true, busy := s.busy }
  exact hk.retry.elim id id

theorem cmdOpenPassive (h : RetryFits s) : RetryFits (cmdOpenPassive s) :=
  .ite (fun _ => h.congr) fun _ => of_restarted rfl

theorem cmdPush (h : RetryFits s) (bytes : List Byte) (eor : Bool) (tag : Tag) : RetryFits (cmdPush bytes eor tag s) :=
  .ite (fun _ => h.congr) fun _ => .ite (fun _ => h.congr) fun _ => .ite (fun _ => h.congr) fun _ => h.congr

theorem cmdPop (h : RetryFits s) : RetryFits (cmdPop s) := by
  unfold Machine.cmdPop
  split <;> exact h.congr

/-- CLOSE leaves ESTABLISHED only. -/
theorem cmdClose (h : RetryFits s) (now : Time) : RetryFits (cmdClose now s) := by
  refine h.of_retryKept (.cmdClose now s) fun hclosed => ?_
  simp [Machine.cmdClose, established, hclosed]

theorem cmdRelease (h : RetryFits s) : RetryFits (cmdRelease s) := by
  unfold Machine.cmdRelease
  split
  · exact of_restarted rfl
  · exact h.congr

theorem of_exec {i : Instr} {t : State} (h : RetryFits s) (hwrcfg : isWrcfg i = false) (hn : exec i s = .next t) :
    RetryFits t := by
  cases rowEffect_of_exec hn with
  | received _ bytes now => exact h.receive bytes now
  | opena now => exact h.event fun h => h.cmdOpenActive now
  | openp now => exact h.event cmdOpenPassive
  | txpush now eor tag bytes => exact h.event fun h => h.cmdPush bytes eor tag
  | rxpop now => exact h.event cmdPop
  | close now => exact h.event fun h => h.cmdClose now
  | release now => exact h.event cmdRelease
  | wrcfg now value => cases hwrcfg
  | rxb now byte => exact h.event fun h => h.rxByte byte now
  | tmr now => exact h.event fun h => h.timerCheck now
  | dsp now => exact h.event fun h => h.dispatchCheck now

end RetryFits

/-- Settles O50: retransmission alone counts, and at the limit it closes the connection. -/
theorem retryStaysWithinTheLimit : Obligations.RetryStaysWithinTheLimit :=
  fun _ _ _ _ hwrcfg h hn => RetryFits.of_exec h hwrcfg hn

/-! ### The host-visible registers (R38) -/

theorem readReg_one (s : State) : readReg s 1 = (stateReg s).setWidth 32 := rfl
theorem readReg_two (s : State) : readReg s 2 = (flagsReg s).setWidth 32 := rfl
theorem readReg_three (s : State) : readReg s 3 = ((codeBits s.status).setWidth 8).setWidth 32 := rfl

theorem readReg_of_seven_le {n : Nat} (h : 7 ≤ n) (s : State) : readReg s n = 0 := by
  obtain ⟨k, rfl⟩ := Nat.exists_eq_add_of_le' h
  rfl

/-- A single bit at its place in a byte. -/
theorem getLsbD_bitAt (b : Bool) (i j : Nat) : (bitAt b i).getLsbD j = (b && decide (i < 8) && decide (i = j)) := by
  cases b
  · simp [bitAt]
  · rw [bitAt, if_pos rfl, ← BitVec.twoPow_eq, BitVec.getLsbD_twoPow, Bool.true_and]

/-- The bits of `STATE`: the encoding of `state` in bits 3:0, and a flag in each of bits 7:4. -/
theorem getLsbD_stateReg (s : State) (j : Nat) :
    (stateReg s).getLsbD j =
      ((connCode s.conn).getLsbD j || s.opened && decide (4 = j) || s.active && decide (5 = j) ||
        s.snSent && decide (6 = j) || s.snReceived && decide (7 = j)) := by
  have hcode : (decide (j < 8) && (connCode s.conn).getLsbD j) = (connCode s.conn).getLsbD j := by
    by_cases hj : j < 8
    · simp [hj]
    · have hbeyond : (connCode s.conn).getLsbD j = false := BitVec.getLsbD_of_ge _ j (by omega)
      simp [hbeyond]
  simp [stateReg, getLsbD_bitAt, hcode]

/-- The bits of `FLAGS`, one flag each. -/
theorem getLsbD_flagsReg (s : State) (j : Nat) :
    (flagsReg s).getLsbD j =
      (isClosed s && decide (0 = j) || isBusy s && decide (1 = j) || established s && decide (2 = j) ||
        rxReady s && decide (3 = j) || rxNonempty s && decide (4 = j) || txIdle s && decide (5 = j) ||
        txFull s && decide (6 = j)) := by
  simp [flagsReg, getLsbD_bitAt]

theorem readReg_one_conn (s : State) : (readReg s 1).extractLsb' 0 4 = connCode s.conn := by
  ext i hi
  have hflags : 4 ≠ i ∧ 5 ≠ i ∧ 6 ≠ i ∧ 7 ≠ i ∧ i < 32 := by omega
  simp [readReg_one, getLsbD_stateReg, hflags, BitVec.getLsbD_eq_getElem hi]

theorem readReg_three_status (s : State) : (readReg s 3).extractLsb' 0 3 = codeBits s.status := by
  ext i hi
  have hwidths : i < 8 ∧ i < 32 := by omega
  simp [readReg_three, hwidths, BitVec.getLsbD_eq_getElem hi]

/-- Bits 7:4 of `STATE` are above the encoding of `state`. -/
theorem readReg_one_flag (s : State) {j : Nat} (hj : 4 ≤ j) (hj' : j < 8) :
    (readReg s 1).getLsbD j =
      (s.opened && decide (4 = j) || s.active && decide (5 = j) || s.snSent && decide (6 = j) ||
        s.snReceived && decide (7 = j)) := by
  have hcode : (connCode s.conn).getLsbD j = false := BitVec.getLsbD_of_ge _ j hj
  have h32 : j < 32 := by omega
  rw [readReg_one, BitVec.getLsbD_setWidth, getLsbD_stateReg, hcode]
  simp [h32]

theorem readReg_two_flag (s : State) {j : Nat} (hj : j < 32) : (readReg s 2).getLsbD j = (flagsReg s).getLsbD j := by
  simp [readReg_two, hj]

theorem txFull_iff (s : State) : txFull s = true ↔ ∃ d, s.cfg.txqDepth = some d ∧ d ≤ s.txq.length := by
  unfold txFull
  cases s.cfg.txqDepth <;> simp [queueFull]

/-- Settles O53, by evaluation of the registers that exist. -/
theorem registersAfterReset : Obligations.RegistersAfterReset :=
  ⟨by decide, by decide, by decide, by decide, by decide, by decide, by decide, fun _ h => readReg_of_seven_le h _⟩

/-- Settles O54: the numbers of states and codes by their encodings, the flags by the bits of their registers. -/
theorem registerFields : Obligations.RegisterFields := by
  refine ⟨?states, ?codes, fun s => ⟨?opened, ?above, ?active, ?snSent, ?snReceived, ?closed, ?busy, ?established, ?rxReady,
    ?rxNonempty, ?txIdle, ?txFull, ?bit7, ?errAbove, rfl, rfl, rfl, rfl, fun _ h => readReg_of_seven_le h s⟩⟩
  case states =>
    intro w hw s hs
    rw [readReg_one_conn, hs]
    clear hs
    revert w
    decide
  case codes =>
    intro w hw s hs
    rw [readReg_three_status, hs]
    clear hs
    revert w
    decide
  case opened | active | snSent | snReceived =>
    rw [readReg_one_flag s (by decide) (by decide)]
    simp
  case closed | busy | established | rxReady | rxNonempty | txIdle | bit7 =>
    rw [readReg_two_flag s (by decide), getLsbD_flagsReg]
    simp [isClosed, isBusy, established, rxReady, rxNonempty, txIdle]
  case txFull =>
    rw [readReg_two_flag s (by decide), getLsbD_flagsReg]
    simp [txFull_iff]
  case above =>
    ext i hi
    simp [readReg_one]
  case errAbove =>
    ext i hi
    simp [readReg_three]

/-! ### The invariants of a block without and with a connection record -/

/-- The reset values meet the invariants, for any parameters (R45). -/
theorem inv_resetWith (cfg : Config) (m : BitVec 8) (inbox : List Arrival) (outs : List Output) :
    Inv (State.resetWith cfg m inbox outs) where
  idle := rfl
  closedIsReset _ := rfl
  statusIffClosed := by simp [State.resetWith]
  statusIsFatal := .inl rfl
  outstandingInSlot h := nomatch h
  outstandingIsBuilt h := nomatch h
  establishedSlot _ := rfl
  timeWaitSlot h := nomatch h
  closedSlot _ := ⟨rfl, rfl⟩
  slotIsPacket h := nomatch h
  queuedAfterEstablished h := absurd rfl h
  txSizes _ h := nomatch h
  rxSizes _ h := nomatch h
  txDepth := by
    unfold WithinDepth
    split
    · trivial
    · exact Nat.zero_le _
  rxDepth := by
    unfold WithinDepth
    split
    · trivial
    · exact Nat.zero_le _
  rtoFromSrtt := rfl
  stampsFit := ⟨Nat.two_pow_pos _, Nat.two_pow_pos _, Nat.two_pow_pos _⟩
  tagsFit := ⟨Nat.two_pow_pos _, fun _ h => nomatch h⟩
  framer := trivial
  rtxBufForm := rfl
  rxPayForm := rfl

/-- Settles O44: reset is one of the reset states. -/
theorem resetHasTheInvariants : Obligations.ResetHasTheInvariants := inv_resetWith _ _ _ _

/-- The part of the invariants that speaks of one register, buffer or queue at a time, while a connection record exists;
every operation of a packet step keeps it. -/
structure RegistersSound (c : Config) (s : State) : Prop where
  cfg : s.cfg = c
  opened : s.opened = true
  statusIsFatal : s.status = .ok ∨ s.status.fatal
  slotIsPacket : s.rtxValid = true → WirePacket s.cfg.crc (slotPacket s)
  txSizes : ∀ e ∈ s.txq, FragmentSize e.bytes
  rxSizes : ∀ e ∈ s.rxq, FragmentSize e.bytes
  txDepth : WithinDepth s.cfg.txqDepth s.txq.length
  rxDepth : WithinDepth s.cfg.rxqDepth s.rxq.length
  rtoFromSrtt : s.rto = rtoOf s.srtt
  stampsFit : s.rtxTs < 2 ^ s.cfg.timeW ∧ s.twTs < 2 ^ s.cfg.timeW ∧ s.rxTs < 2 ^ s.cfg.timeW
  tagsFit : s.curTag < 2 ^ s.cfg.tagW ∧ ∀ e ∈ s.txq, e.tag < 2 ^ s.cfg.tagW
  framer : FramerSound s
  rtxBufForm : s.rtxBuf.wf rtxBufSize = true

/-- The part of the invariants that relates the slot, the outstanding fragment, `status` and `txq` to `state`. It holds
between packets, and not within a packet step. -/
structure ConnSound (s : State) : Prop where
  statusIffClosed : s.status ≠ .ok ↔ s.conn = .closed
  outstandingInSlot : s.curValid = true → s.rtxValid = true ∧ s.conn = .established
  outstandingIsBuilt :
    s.curValid = true →
      ∃ an eor bytes, FragmentSize bytes ∧ slotPacket s = buildData s.cfg.crc s.snSent an eor bytes
  establishedSlot : s.conn = .established → s.rtxValid = s.curValid
  timeWaitSlot : s.conn = .timeWait → s.rtxValid = false
  closedSlot : s.conn = .closed → s.rtxValid = false ∧ s.curValid = false
  queuedAfterEstablished : s.txq ≠ [] → afterEstablished s.conn = true

/-- The invariants while a connection record exists, `busy` left out. -/
structure Live (c : Config) (s : State) : Prop extends RegistersSound c s, ConnSound s

/-- The invariants, `busy` left out: what an event has to keep. -/
def InvInEvent (s : State) : Prop := Inv { s with busy := false }

theorem Live.invInEvent {c : Config} {s : State} (h : Live c s) : InvInEvent s :=
  { h with
    idle := rfl
    closedIsReset := fun hclosed => absurd (h.opened.symm.trans hclosed) (by decide)
    statusIffClosed := h.statusIffClosed.trans (by simp [h.opened])
    framer := h.framer.fits
    rxPayForm := h.framer.payForm }

theorem InvInEvent.live {s : State} (h : InvInEvent s) (hopened : s.opened = true) : Live s.cfg s :=
  { h with
    cfg := rfl
    opened := hopened
    statusIffClosed := h.statusIffClosed.trans (by simp [hopened])
    framer := ⟨h.framer, h.rxPayForm⟩ }

/-! ### Slot and queues -/

/-- A packet that fits the buffer is read back from the slot (R191, R198). -/
theorem slotPacket_loadSlot {p : List Byte} {s : State} (hs : s.rtxBuf.wf rtxBufSize = true)
    (hp : p.length ≤ rtxBufSize) (now : Time) : slotPacket (loadSlot p now s) = p :=
  Memory.readBytes_writeBytes hs (by omega)

theorem WithinDepth.mono {depth : Option Nat} {m n : Nat} (h : WithinDepth depth n) (hmn : m ≤ n) :
    WithinDepth depth m := by
  cases depth with
  | none => trivial
  | some d => exact hmn.trans h

/-- A queue that is not full has room for one more entry. -/
theorem withinDepth_append {α : Type} {depth : Option Nat} {q : List α} (h : queueFull depth q.length = false) (e : α) :
    WithinDepth depth (q ++ [e]).length := by
  cases depth with
  | none => trivial
  | some d => simpa [queueFull, WithinDepth] using h

/-! ### The registers in a packet step -/

/-- A packet that carries data carries 1 to 255 bytes of it. -/
def PayloadFits (p : Pkt) : Prop := pktHasData p = true → FragmentSize p.bytes

namespace RegistersSound

variable {c : Config} {s : State}

theorem emit (h : RegistersSound c s) (p : List Byte) : RegistersSound c (emit p s) :=
  { h with framer := { h.framer with } }

theorem settle (h : RegistersSound c s) (code : Code) : RegistersSound c (settle code s) := by
  unfold Machine.settle
  split
  · exact { h with framer := { h.framer with } }
  · exact h

theorem fail (h : RegistersSound c s) {code : Code} (hcode : code.fatal) : RegistersSound c (fail code s) :=
  settle (s := { s with status := code, conn := .closed, rtxValid := false })
    { h with statusIsFatal := .inr hcode, slotIsPacket := nofun, framer := { h.framer with } } code

theorem ackAccepted (h : RegistersSound c s) (now : Time) : RegistersSound c (ackAccepted now s) := by
  refine settle ?_ .ok
  split
  · exact { h with slotIsPacket := nofun, rtoFromSrtt := rfl, framer := { h.framer with } }
  · exact h

/-- A stamp taken at `now` fits where `now` was sampled. -/
theorem stamp_lt (h : RegistersSound c s) {now : Time} (hnow : now < 2 ^ c.timeW) : now < 2 ^ s.cfg.timeW := h.cfg ▸ hnow

theorem loadSlot (h : RegistersSound c s) {p : List Byte} {now : Time} (hwire : WirePacket c.crc p)
    (hlen : p.length ≤ rtxBufSize) (hnow : now < 2 ^ c.timeW) : RegistersSound c (loadSlot p now s) where
  __ := h
  slotIsPacket _ := by
    rw [slotPacket_loadSlot h.rtxBufForm hlen, loadSlot_cfg, h.cfg]
    exact hwire
  stampsFit := ⟨h.stamp_lt hnow, h.stampsFit.2⟩
  rtxBufForm := Memory.writeBytes_wf h.rtxBufForm (by omega)
  framer := { h.framer with }

theorem sendSeg (h : RegistersSound c s) {p : List Byte} {now : Time} (own : Bool) (hwire : WirePacket c.crc p)
    (hlen : p.length ≤ rtxBufSize) (hnow : now < 2 ^ c.timeW) : RegistersSound c (sendSeg p now own s) := by
  unfold Machine.sendSeg
  split
  · refine loadSlot ?_ hwire hlen hnow
    split
    · exact h.emit p
    · exact (h.emit p).settle _
  · exact h.emit p

theorem sendHeader (h : RegistersSound c s) {cb l : Byte} {now : Time} (hform : HeaderForm cb l)
    (hnow : now < 2 ^ c.timeW) : RegistersSound c (Machine.sendSeg (makeHeader cb l) now false s) :=
  h.sendSeg false (hform.wirePacket _) (by rw [makeHeader_length]; decide) hnow

theorem dispatch (h : RegistersSound c s) {now : Time} (hnow : now < 2 ^ c.timeW) : RegistersSound c (dispatch now s) := by
  cases hq : s.txq with
  | nil => simpa only [Machine.dispatch, hq] using h
  | cons e rest =>
    have hsize : FragmentSize e.bytes := h.txSizes e (by simp [hq])
    have hrest : ∀ {x}, x ∈ rest → x ∈ s.txq := by simp +contextual [hq]
    rw [dispatch_cons hq]
    refine sendSeg ?_ true (h.cfg ▸ wirePacket_buildData hsize _ _ _ _) (buildData_length_le hsize _ _ _ _) hnow
    exact
      { h with
        txSizes := fun x hx => h.txSizes x (hrest hx)
        txDepth := h.txDepth.mono (by simp [hq])
        tagsFit := ⟨h.tagsFit.2 e (by simp [hq]), fun x hx => h.tagsFit.2 x (hrest hx)⟩
        framer := { h.framer with } }

theorem keptByPacket {p : Pkt} {now : Time} (hp : PayloadFits p) (hnow : now < 2 ^ c.timeW) :
    KeptByPacket p now (RegistersSound c) where
  emit q h := h.emit q
  sendHeader _ _ hform h := h.sendHeader hform hnow
  ackAccepted h := h.ackAccepted now
  fail hcode h := h.fail hcode
  dispatch h := h.dispatch hnow
  store {s} hdata hroom h :=
    { h with
      rxSizes := by
        simp only [List.mem_append, List.mem_singleton]
        rintro e (he | rfl)
        · exact h.rxSizes e he
        · exact hp hdata
      rxDepth := withinDepth_append hroom _
      framer := { h.framer with } }
  move _ _ _ h := { h with framer := { h.framer with } }
  stampTimeWait h := { h with stampsFit := ⟨h.stampsFit.1, h.stamp_lt hnow, h.stampsFit.2.2⟩, framer := { h.framer with } }
  dropSlot h := { h with slotIsPacket := nofun, framer := { h.framer with } }

end RegistersSound

/-! ### `state` and what it allows -/

namespace ConnSound

variable {c : Config} {s t : State}

theorem status_ok (h : ConnSound s) (hconn : s.conn ≠ .closed) : s.status = .ok := by
  by_contra hs
  exact hconn (h.statusIffClosed.mp hs)

/-- With nothing outstanding it is enough that `status` and `txq` fit `state`, and that the slot is empty in the three
states where no packet of the block's own waits for its acknowledgment (R41 (ii), (viii), (ix)). -/
theorem of_none (hcur : s.curValid = false) (hstatus : s.status ≠ .ok ↔ s.conn = .closed)
    (hslot : s.conn = .established ∨ s.conn = .timeWait ∨ s.conn = .closed → s.rtxValid = false)
    (hqueue : s.txq ≠ [] → afterEstablished s.conn = true) : ConnSound s where
  statusIffClosed := hstatus
  outstandingInSlot h := absurd (hcur.symm.trans h) (by decide)
  outstandingIsBuilt h := absurd (hcur.symm.trans h) (by decide)
  establishedSlot h := (hslot (.inl h)).trans hcur.symm
  timeWaitSlot h := hslot (.inr (.inl h))
  closedSlot h := ⟨hslot (.inr (.inr h)), hcur⟩
  queuedAfterEstablished := hqueue

/-- The same after a move to a state other than CLOSED. -/
theorem of_moved (hstatus : s.status = .ok) (hconn : s.conn ≠ .closed) (hcur : s.curValid = false)
    (hslot : s.conn = .established ∨ s.conn = .timeWait → s.rtxValid = false)
    (hqueue : s.txq ≠ [] → afterEstablished s.conn = true) : ConnSound s :=
  of_none hcur (by simp [hstatus, hconn]) (by simpa [hconn] using hslot) hqueue

/-- Fail reaches CLOSED from everywhere (R256). -/
theorem fail {code : Code} (hcode : code.fatal) (s : State) : ConnSound (fail code s) := by
  refine of_none (fail_curValid code s) ?_ (fun _ => fail_rtxValid code s) fun _ => ?_
  · rcases hcode with rfl | rfl | rfl <;> simp
  · rw [fail_conn]
    rfl

theorem ackReply (h : ConnSound s) (p : Pkt) (now : Time) : ConnSound (ackReply p now s) := by
  rw [ackReply_eq]
  exact { h with }

theorem ackAccepted (h : ConnSound s) (now : Time) : ConnSound (ackAccepted now s) :=
  of_none (ackAccepted_curValid now s) (by simpa using h.statusIffClosed) (fun _ => ackAccepted_rtxValid now s)
    (by simpa using h.queuedAfterEstablished)

/-- A dispatched fragment is outstanding, and the slot holds the packet built from it (R200). -/
theorem dispatch (h : ConnSound s) (hr : RegistersSound c s) (hready : dispatchReady s = true) (now : Time) :
    ConnSound (dispatch now s) := by
  simp only [dispatchReady, Bool.and_eq_true, beq_iff_eq] at hready
  obtain ⟨⟨⟨⟨-, hconn⟩, -⟩, -⟩, hqueue⟩ := hready
  cases hq : s.txq with
  | nil => simp [hq] at hqueue
  | cons e rest =>
    have hsize : FragmentSize e.bytes := hr.txSizes e (by simp [hq])
    rw [dispatch_cons hq, sendSeg_own (retransmittable_buildData hsize _ _ _ _)]
    exact {
      statusIffClosed := h.statusIffClosed
      outstandingInSlot := fun _ => ⟨rfl, hconn⟩
      outstandingIsBuilt := fun _ =>
        ⟨_, _, _, hsize, slotPacket_loadSlot hr.rtxBufForm (buildData_length_le hsize _ _ _ _) now⟩
      establishedSlot := fun _ => rfl
      timeWaitSlot := fun hw => absurd (hconn.symm.trans hw) (by decide)
      closedSlot := fun hw => absurd (hconn.symm.trans hw) (by decide)
      queuedAfterEstablished := fun _ => congrArg afterEstablished hconn }

theorem dispatchOrAck (h : ConnSound s) (hr : RegistersSound c s) (p : Pkt) (now : Time) :
    ConnSound (if dispatchReady s then Machine.dispatch now s else Machine.ackReply p now s) := by
  split
  · next hready => exact h.dispatch hr hready now
  · exact h.ackReply p now

end ConnSound

/-! ### A packet step keeps the invariants, state by state (R140, R171) -/

/-- How a procedure can end: with `P` when it stops, with `Q` when it hands on to the next one. -/
def Verdict.Ends (P Q : State → Prop) (v : Verdict) : Prop :=
  match v with
  | .stop t => P t
  | .cont t => Q t

theorem Verdict.ends_ite {P Q : State → Prop} {c : Prop} [Decidable c] {v w : Verdict} (hv : c → v.Ends P Q)
    (hw : ¬c → w.Ends P Q) : (if c then v else w).Ends P Q := by
  split
  · next h => exact hv h
  · next h => exact hw h

/-- A list runs its first procedure, and the rest on what that one hands on. -/
theorem runProcs_of_ends {P Q : State → Prop} {f : Proc} {rest : List Proc} {p : Pkt} {now : Time} {s : State}
    (hf : (runProc f p now s).Ends P Q) (hrest : ∀ t, Q t → P (runProcs rest p now t)) :
    P (runProcs (f :: rest) p now s) := by
  rw [runProcs_cons]
  cases hv : runProc f p now s with
  | stop t =>
    rw [hv] at hf
    exact hf
  | cont t =>
    rw [hv] at hf
    exact hrest t hf

/-- A procedure that is only a gate hands on the state it was given. -/
theorem runProcs_of_gate {P : State → Prop} {f : Proc} {rest : List Proc} {p : Pkt} {now : Time} {s t : State}
    (hf : (runProc f p now s).Ends P (· = t)) (hrest : P (runProcs rest p now t)) :
    P (runProcs (f :: rest) p now s) :=
  runProcs_of_ends hf fun _ ht => ht ▸ hrest

theorem sendSeg_curValid {q : List Byte} (hq : retransmittable q = true) (now : Time) (s : State) :
    (sendSeg q now false s).curValid = false := by
  rw [sendSeg_slot hq, loadSlot_curValid, settle_curValid]

/-! #### The acknowledgment part (R152 to R154) -/

theorem afterAck_of_anExpected {p : Pkt} {s : State} (h : anExpected p s = true) (now : Time) :
    afterAck p now s = ackAccepted now s := if_pos h

theorem afterAck_of_not_anExpected {p : Pkt} {s : State} (h : ¬anExpected p s = true) (now : Time) :
    afterAck p now s = s := if_neg h

@[simp] theorem afterAck_conn (p : Pkt) (now : Time) (s : State) : (afterAck p now s).conn = s.conn := by
  unfold afterAck
  split <;> simp

@[simp] theorem afterAck_snSent (p : Pkt) (now : Time) (s : State) : (afterAck p now s).snSent = s.snSent := by
  unfold afterAck
  split <;> simp

/-- An expected AN empties the slot. -/
theorem afterAck_rtxValid {p : Pkt} {now : Time} {s : State} (h : anExpected p (afterAck p now s) = true) :
    (afterAck p now s).rtxValid = false := by
  have hs : anExpected p s = true := by simpa [anExpected] using h
  rw [afterAck_of_anExpected hs, ackAccepted_rtxValid]

namespace ConnSound

variable {c : Config} {p : Pkt} {now : Time} {s : State}

theorem afterAck (h : ConnSound s) : ConnSound (afterAck p now s) := by
  unfold Spec.afterAck
  split
  · exact h.ackAccepted now
  · exact h

theorem curValid_of_ne (h : ConnSound s) (hconn : s.conn ≠ .established) : s.curValid = false := by
  by_contra hcur
  exact hconn (h.outstandingInSlot (by simpa using hcur)).2

theorem txq_of_before (h : ConnSound s) (hbefore : afterEstablished s.conn = false) : s.txq = [] := by
  by_contra hne
  exact absurd (h.queuedAfterEstablished hne) (by simp [hbefore])

theorem of_answerSyn (h : ConnSound s) (hbefore : afterEstablished s.conn = false) : ConnSound (answerSyn p now s) := by
  have hopen : s.conn ≠ .closed := by rintro hc; simp [hc, afterEstablished] at hbefore
  unfold answerSyn
  refine of_moved ?_ (by simp) (sendSeg_curValid (retransmittable_synack _) _ _) (by simp) ?_
  · simpa using h.status_ok hopen
  · simp [h.txq_of_before hbefore]

theorem of_rstReply (h : ConnSound s) (hconn : s.conn ≠ .established ∧ s.conn ≠ .timeWait ∧ s.conn ≠ .closed) :
    ConnSound (rstReply p now s) :=
  of_none (rstReply_curValid p now s) (by simpa using h.statusIffClosed) (by simp [hconn])
    (by simpa using h.queuedAfterEstablished)

/-! #### Each procedure -/

theorem procA (h : ConnSound s) (hconn : s.conn = .listen) : (procA p now s).Ends ConnSound ConnSound :=
  Verdict.ends_ite (fun _ => h) fun _ =>
    Verdict.ends_ite (fun _ => h.of_rstReply (by simp [hconn])) fun _ =>
      Verdict.ends_ite (fun _ => h.of_answerSyn (by simp [hconn, afterEstablished])) fun _ => h

/-- The expected acknowledgment empties the slot before ESTABLISHED is entered. -/
theorem of_completeOpen (h : ConnSound s) (hr : RegistersSound c s) (K : KeptByPacket p now (RegistersSound c))
    (hconn : s.conn = .synSent) : ConnSound (completeOpen p now s) := by
  refine dispatchOrAck (c := c) (of_moved ?_ (by simp) (by simp) (by simp) (by simp [afterEstablished])) ?_ p now
  · simpa using h.status_ok (by simp [hconn])
  · exact K.move _ _ _ (K.ackAccepted (K.move s.conn s.snSent _ hr))

theorem procB (h : ConnSound s) (hr : RegistersSound c s) (K : KeptByPacket p now (RegistersSound c))
    (hconn : s.conn = .synSent) : (procB p now s).Ends ConnSound ConnSound := by
  refine Verdict.ends_ite (fun _ => KeptByPacket.ite h (h.of_rstReply (by simp [hconn]))) fun _ =>
    Verdict.ends_ite (fun _ => fail Code.fatal_refused s) fun _ => Verdict.ends_ite (fun _ => ?_) fun _ => h
  exact KeptByPacket.ite (h.of_completeOpen hr K hconn) (h.of_answerSyn (by simp [hconn, afterEstablished]))

theorem procC1 (h : ConnSound s) : (procC1 p now s).Ends ConnSound (· = s) :=
  Verdict.ends_ite (fun _ => rfl) fun _ => Verdict.ends_ite (fun _ => h) fun _ => h.ackReply p now

theorem procC2 (h : ConnSound s) : (procC2 p now s).Ends ConnSound (· = s) :=
  Verdict.ends_ite (fun _ => rfl) fun _ => Verdict.ends_ite (fun _ => h) fun _ =>
    Verdict.ends_ite (fun _ => fail Code.fatal_reset _) fun _ => h.ackReply p now

variable (now) in
theorem procD1 (h : ConnSound s) (hconn : s.conn = .synReceived) : (procD1 p now s).Ends ConnSound (· = s) := by
  refine Verdict.ends_ite (fun _ => rfl) fun _ => Verdict.ends_ite (fun _ => ?_) fun _ => fail Code.fatal_refused s
  refine of_moved (h.status_ok (by simp [hconn])) (by simp) (h.curValid_of_ne (by simp [hconn])) (fun _ => rfl) ?_
  simp [h.txq_of_before (by simp [hconn, afterEstablished])]

variable (now) in
theorem procD2 : (procD2 p now s).Ends ConnSound (· = s) :=
  Verdict.ends_ite (fun _ => rfl) fun _ => fail Code.fatal_reset s

variable (now) in
theorem procD3 : (procD3 p now s).Ends ConnSound (· = s) :=
  Verdict.ends_ite (fun _ => rfl) fun _ => fail Code.fatal_reset s

theorem procE : (procE p now s).Ends ConnSound (· = s) :=
  Verdict.ends_ite (fun _ => rfl) fun _ => fail Code.fatal_reset _

theorem procF1 (h : ConnSound s) (hconn : s.conn = .synReceived) :
    (procF1 p now s).Ends ConnSound (· = Machine.ackAccepted now s) := by
  refine Verdict.ends_ite (fun _ => h) fun _ => Verdict.ends_ite (fun _ => rfl) fun _ =>
    Verdict.ends_ite (fun _ => ?_) fun _ => fail Code.fatal_refused _
  refine of_moved ?_ (by simp) (rstReply_curValid p now s) (by simp) ?_
  · simpa using h.status_ok (by simp [hconn])
  · simp [h.txq_of_before (by simp [hconn, afterEstablished])]

theorem procF2 (h : ConnSound s) : (procF2 p now s).Ends ConnSound (· = Spec.afterAck p now s) :=
  Verdict.ends_ite (fun _ => h) fun _ =>
    Verdict.ends_ite (fun han => (afterAck_of_anExpected han now).symm) fun han =>
      (afterAck_of_not_anExpected han now).symm

theorem procF3 (h : ConnSound s) : (procF3 p now s).Ends ConnSound (· = Spec.afterAck p now s) :=
  h.procF2

variable (now) in
theorem procG (h : ConnSound s) : (procG p now s).Ends ConnSound ConnSound :=
  Verdict.ends_ite (fun _ => h) fun _ => Verdict.ends_ite (fun _ => { h with }) fun _ => { h with }

/-- A FIN is answered from LAST_ACK, and displaces an outstanding fragment (R157, R205). -/
theorem procH2 (h : ConnSound s) (hconn : s.conn = .established) : (procH2 p now s).Ends ConnSound (· = s) := by
  refine Verdict.ends_ite (fun _ => rfl) fun _ => ?_
  refine of_moved ?_ (by simp) (sendSeg_curValid (retransmittable_finack _ _) _ _) (by simp) (fun _ => rfl)
  simpa using h.status_ok (by simp [hconn])

/-- TIME_WAIT is entered with an empty slot. -/
theorem of_timeWait (h : ConnSound s) (hconn : s.conn = .finWait ∨ s.conn = .closing) (hslot : s.rtxValid = false)
    (now : Time) : ConnSound { s with twTs := now, conn := .timeWait } := by
  have hne : s.conn ≠ .established ∧ s.conn ≠ .closed := by rcases hconn with hc | hc <;> simp [hc]
  exact of_moved (h.status_ok hne.2) (by simp) (h.curValid_of_ne hne.1) (fun _ => hslot) (fun _ => rfl)

theorem procH3 (h : ConnSound s) (hconn : s.conn = .finWait) (hslot : anExpected p s = true → s.rtxValid = false) :
    (procH3 p now s).Ends ConnSound ConnSound := by
  refine Verdict.ends_ite (fun _ => h) fun _ => Verdict.ends_ite (fun _ => fail Code.fatal_reset _) fun _ =>
    Verdict.ends_ite (fun han => ?_) fun _ => ?_
  · exact (h.ackReply p now).of_timeWait (.inl (by simpa using hconn)) (by simpa using hslot han) now
  · refine of_moved ?_ (by simp) ?_ (by simp) (fun _ => rfl)
    · simpa using h.status_ok (by simp [hconn])
    · simpa using h.curValid_of_ne (by simp [hconn])

variable (now) in
theorem procH4 (h : ConnSound s) : (procH4 p now s).Ends ConnSound ConnSound :=
  Verdict.ends_ite (fun _ => fail Code.fatal_reset s) fun _ => h

theorem procH5 (h : ConnSound s) (hconn : s.conn = .closing) (hslot : anExpected p s = true → s.rtxValid = false) :
    (procH5 p now s).Ends ConnSound ConnSound :=
  Verdict.ends_ite (fun han => h.of_timeWait (.inr hconn) (hslot han) now) fun _ => h

theorem procH6 (h : ConnSound s) : (procH6 p now s).Ends ConnSound ConnSound :=
  Verdict.ends_ite (fun _ => { h.ackReply p now with }) fun _ => h

theorem procI1 (h : ConnSound s) (hr : RegistersSound c s) (K : KeptByPacket p now (RegistersSound c)) :
    (procI1 p now s).Ends ConnSound ConnSound := by
  refine Verdict.ends_ite (fun _ => h) fun hdata => Verdict.ends_ite (fun _ => h) fun hroom => ?_
  have haccepted := K.accept (by simpa using hdata) (by simpa using hroom) hr
  refine dispatchOrAck ?_ haccepted p now
  exact { h with }

/-! #### Each list -/

/-- The packet step in each of the nine states. -/
theorem packetStep (h : ConnSound s) (hr : RegistersSound c s) (K : KeptByPacket p now (RegistersSound c)) :
    ConnSound (packetStep p now s) := by
  have last {f : Proc} {t : State} (hf : (runProc f p now t).Ends ConnSound ConnSound) :
      ConnSound (runProcs [f] p now t) := runProcs_of_ends hf fun _ ht => ht
  have hack : ConnSound (Spec.afterAck p now s) := h.afterAck
  unfold Machine.packetStep
  cases hconn : s.conn with
  | listen => exact last (h.procA hconn)
  | synSent => exact last (h.procB hr K hconn)
  | synReceived =>
    refine runProcs_of_gate h.procC1 (runProcs_of_gate (h.procD1 now hconn) (runProcs_of_gate procE
      (runProcs_of_gate (h.procF1 hconn) ?_)))
    have hopened : ConnSound { Machine.ackAccepted now s with conn := .established } :=
      of_moved (by simpa using h.status_ok (by simp [hconn])) (by simp) (by simp) (by simp) (fun _ => rfl)
    exact runProcs_of_gate (t := { Machine.ackAccepted now s with conn := .established }) rfl
      (last (hopened.procI1 (K.move _ _ _ (K.ackAccepted hr)) K))
  | established =>
    exact runProcs_of_gate h.procC2 (runProcs_of_gate (procD2 now) (runProcs_of_gate procE (runProcs_of_gate h.procF2
      (runProcs_of_gate (hack.procH2 (by simpa using hconn)) (last (hack.procI1 (K.afterAck hr) K))))))
  | finWait =>
    exact runProcs_of_gate h.procC2 (runProcs_of_gate (procD2 now) (runProcs_of_gate procE (runProcs_of_gate h.procF3
      (last (hack.procH3 (by simpa using hconn) afterAck_rtxValid)))))
  | lastAck =>
    exact runProcs_of_gate h.procC2 (runProcs_of_gate (procD3 now) (runProcs_of_gate procE (runProcs_of_gate h.procF3
      (last (hack.procH4 now)))))
  | closing =>
    exact runProcs_of_gate h.procC2 (runProcs_of_gate (procD3 now) (runProcs_of_gate procE (runProcs_of_gate h.procF3
      (last (hack.procH5 (by simpa using hconn) afterAck_rtxValid)))))
  | timeWait =>
    exact runProcs_of_gate (procD3 now) (runProcs_of_gate procE (runProcs_of_gate h.procF3 (last hack.procH6)))
  | closed => exact last (h.procG now)

end ConnSound

/-! ### Every event keeps the invariants while a connection record exists -/

namespace Live

variable {c : Config} {s t : State} {now : Time}

theorem packetStep (h : Live c s) {p : Pkt} (hp : PayloadFits p) (hnow : now < 2 ^ c.timeW) :
    Live c (packetStep p now s) :=
  have K := RegistersSound.keptByPacket hp hnow
  { K.packetStep h.toRegistersSound, h.toConnSound.packetStep h.toRegistersSound K with }

theorem framerMove (h : Live c s) (hm : FramerMove s t) : Live c t := by
  obtain ⟨_, _, _, _, _, _, hsound⟩ := hm
  exact { h with framer := hsound h.framer }

theorem stampByte (h : Live c s) (hnow : now < 2 ^ c.timeW) : Live c { s with rxTs := now } :=
  { h with stampsFit := ⟨h.stampsFit.1, h.stampsFit.2.1, h.stamp_lt hnow⟩, framer := { h.framer with } }

theorem rxByteAt (h : Live c s) (byte : Byte) (hnow : now < 2 ^ c.timeW) : Live c (rxByteAt byte now s) :=
  rxByteAt_induction h (fun hm h => h.framerMove hm) (fun h => h.stampByte hnow)
    fun hr hsize h => h.packetStep (hsize hr.framer) hnow

theorem fail (h : Live c s) {code : Code} (hcode : code.fatal) : Live c (fail code s) :=
  { h.toRegistersSound.fail hcode, ConnSound.fail hcode s with }

theorem resend (h : Live c s) (hnow : now < 2 ^ c.timeW) : Live c (resend now s) :=
  { h with stampsFit := ⟨h.stamp_lt hnow, h.stampsFit.2⟩, framer := { h.framer with } }

theorem ite {p : Prop} [Decidable p] (hs : p → Live c s) (ht : ¬p → Live c t) : Live c (if p then s else t) := by
  split
  · next h => exact hs h
  · next h => exact ht h

theorem timerCheckAt (h : Live c s) (hnow : now < 2 ^ c.timeW) : Live c (timerCheckAt now s) := by
  have htimeout : Live c (byteTimeout now s) := h.framerMove (framerMove_byteTimeout now s)
  have hwait : Live c (timeWaitCheck now (byteTimeout now s)) :=
    ite (fun _ => htimeout.fail Code.fatal_reset) fun _ => htimeout
  have hresent := hwait.resend hnow
  exact ite (fun _ => ite (fun _ => hresent.fail Code.fatal_timeout) fun _ => hresent) fun _ => hwait

theorem dispatch (h : Live c s) (hready : dispatchReady s = true) (hnow : now < 2 ^ c.timeW) : Live c (dispatch now s) :=
  { h.toRegistersSound.dispatch hnow, h.toConnSound.dispatch h.toRegistersSound hready now with }

/-- A fragment that TXPUSH accepts fits the queue (R218). -/
theorem push (h : Live c s) (hconn : s.conn = .established) (hroom : txFull s = false) {bytes : List Byte}
    (hsize : FragmentSize bytes) (eor : Bool) (tag : Tag) :
    Live c { s with txq := s.txq ++ [⟨bytes, eor, tagBits s tag⟩] } where
  __ := h
  txSizes := by
    simp only [List.mem_append, List.mem_singleton]
    rintro e (he | rfl)
    · exact h.txSizes e he
    · exact hsize
  txDepth := withinDepth_append hroom _
  tagsFit := by
    refine ⟨h.tagsFit.1, ?_⟩
    simp only [List.mem_append, List.mem_singleton]
    rintro e (he | rfl)
    · exact h.tagsFit.2 e he
    · exact tagBits_lt s tag
  framer := { h.framer with }
  queuedAfterEstablished := fun _ => congrArg afterEstablished hconn

theorem pop (h : Live c s) {e : RxEntry} {rest : List RxEntry} (hq : s.rxq = e :: rest) :
    Live c { s with rxq := rest } where
  __ := h
  rxSizes := fun x hx => h.rxSizes x (by simp [hq, hx])
  rxDepth := h.rxDepth.mono (by simp [hq])
  framer := { h.framer with }

/-- CLOSE enters FIN_WAIT; its FIN displaces an outstanding fragment (R205, R220). -/
theorem startClose (h : Live c s) (hconn : s.conn = .established) (hnow : now < 2 ^ c.timeW) :
    Live c (startClose now s) := by
  have hflip : RegistersSound c { s with snSent := !s.snSent } := { h with framer := { h.framer with } }
  have hsent := hflip.sendHeader (headerForm_finack (!s.snSent) (!s.snReceived)) hnow
  have hconn' : ConnSound (Machine.startClose now s) := by
    refine .of_moved ?_ nofun (sendSeg_curValid (retransmittable_finack _ _) _ _) (by simp [Machine.startClose])
      fun _ => rfl
    simpa [Machine.startClose] using h.status_ok (by simp [hconn])
  exact { hsent, hconn' with framer := { hsent.framer with } }

/-- The block with a fresh connection record (R216, R217). -/
theorem fresh (s : State) (active : Bool) :
    Live s.cfg { resetTcb s with opened := true, active := active, conn := .listen, busy := s.busy } where
  __ := inv_resetWith s.cfg s.maxRetries s.inbox s.outs
  cfg := rfl
  opened := rfl
  framer := ⟨trivial, rfl⟩
  statusIffClosed := by simp [resetTcb, State.resetWith]
  outstandingInSlot := nofun
  establishedSlot := nofun
  timeWaitSlot := nofun
  closedSlot := nofun
  queuedAfterEstablished h := absurd rfl h

end Live

/-! ### Every event keeps the invariants -/

/-- The invariants do not speak of the limit, of what is presented, or of what has been emitted. -/
theorem Inv.withLog {s : State} (h : Inv s) (m : BitVec 8) (inbox : List Arrival) (outs : List Output) :
    Inv { s with maxRetries := m, inbox := inbox, outs := outs } :=
  { h with
    closedIsReset := fun hclosed =>
      congrArg (fun x : State => { x with maxRetries := m, inbox := inbox, outs := outs }) (h.closedIsReset hclosed)
    framer := h.framer }

theorem Inv.inEvent {s : State} (h : Inv s) (busy : Bool) : InvInEvent { s with busy := busy } := by
  change Inv { s with busy := false }
  rw [← h.idle]
  exact h

/-- What keeps the invariants but for `busy` keeps them as an event (R35). -/
theorem Inv.event {f : State → State} (hf : ∀ {x}, InvInEvent x → InvInEvent (f x)) {s : State} (h : Inv s) :
    Inv (event f s) :=
  hf (h.inEvent true)

namespace InvInEvent

variable {s : State}

theorem ite {c : Prop} [Decidable c] {t : State} (hs : c → InvInEvent s) (ht : ¬c → InvInEvent t) :
    InvInEvent (if c then s else t) := by
  split
  · next h => exact hs h
  · next h => exact ht h

theorem respond (h : InvInEvent s) (code : Code) (e : Option RxEntry) : InvInEvent (respond code e s) :=
  h.withLog s.maxRetries s.inbox _

/-- Without a connection record nothing is queued (R21). -/
theorem opened_of_rxq (h : InvInEvent s) (hq : s.rxq ≠ []) : s.opened = true := by
  by_contra hclosed
  exact hq (congrArg State.rxq (h.closedIsReset (by simpa using hclosed)))

theorem rxByte (h : InvInEvent s) (byte : Byte) (now : Time) : InvInEvent (rxByte byte now s) :=
  .ite (fun hopened => ((h.live hopened).rxByteAt byte (sampled_lt s now)).invInEvent) fun _ => h

theorem timerCheck (h : InvInEvent s) (now : Time) : InvInEvent (timerCheck now s) :=
  .ite (fun hopened => ((h.live hopened).timerCheckAt (sampled_lt s now)).invInEvent) fun _ => h

theorem dispatchCheck (h : InvInEvent s) (now : Time) : InvInEvent (dispatchCheck now s) := by
  refine .ite (fun hready => ?_) fun _ => h
  have hopened : s.opened = true := by
    simp only [dispatchReady, Bool.and_eq_true] at hready
    exact hready.1.1.1.1
  exact ((h.live hopened).dispatch hready (sampled_lt s now)).invInEvent

/-! #### The host commands (R216 to R222) -/

theorem openActive (now : Time) (s : State) : InvInEvent (openActive (sampled s now) s) := by
  have hfresh : RegistersSound s.cfg { resetTcb s with opened := true, active := true, busy := s.busy } :=
    { Live.fresh s true with framer := { (Live.fresh s true).framer with } }
  have hsent := hfresh.sendHeader headerForm_syn (sampled_lt s now)
  have hconn : ConnSound (Machine.openActive (sampled s now) s) := by
    refine .of_moved ?_ nofun (sendSeg_curValid (by decide) _ _) (by simp [Machine.openActive]) ?_
    · simp [Machine.openActive, resetTcb, State.resetWith]
    · simp [Machine.openActive, resetTcb, State.resetWith]
  exact Live.invInEvent (c := s.cfg) { hsent, hconn with framer := { hsent.framer with } }

theorem cmdOpenActive (h : InvInEvent s) (now : Time) : InvInEvent (cmdOpenActive now s) :=
  .ite (fun _ => h.respond _ _) fun _ => openActive now s

theorem cmdOpenPassive (h : InvInEvent s) : InvInEvent (cmdOpenPassive s) :=
  .ite (fun _ => h.respond _ _) fun _ => (Live.fresh s false).invInEvent.respond _ _

theorem cmdPush (h : InvInEvent s) (bytes : List Byte) (eor : Bool) (tag : Tag) :
    InvInEvent (cmdPush bytes eor tag s) := by
  refine .ite (fun _ => h.respond _ _) fun hestablished => .ite (fun _ => h.respond _ _) fun hsize =>
    .ite (fun _ => h.respond _ _) fun hroom => ?_
  obtain ⟨hopened, hconn⟩ : s.opened = true ∧ s.conn = .established := by simpa [established] using hestablished
  have hfits : FragmentSize bytes := by
    unfold FragmentSize
    omega
  exact ((h.live hopened).push hconn (by simpa using hroom) hfits eor tag).invInEvent.respond _ _

theorem cmdPop (h : InvInEvent s) : InvInEvent (cmdPop s) := by
  unfold Machine.cmdPop
  split
  · exact h.respond _ _
  · next e rest hq =>
    have hopened := h.opened_of_rxq (by simp [hq])
    exact ((h.live hopened).pop hq).invInEvent.respond _ _

theorem cmdClose (h : InvInEvent s) (now : Time) : InvInEvent (cmdClose now s) := by
  refine respond (.ite (fun hestablished => ?_) fun _ => h) _ _
  obtain ⟨hopened, hconn⟩ : s.opened = true ∧ s.conn = .established := by simpa [established] using hestablished
  exact ((h.live hopened).startClose hconn (sampled_lt s now)).invInEvent

theorem cmdRelease (h : InvInEvent s) : InvInEvent (cmdRelease s) :=
  respond (.ite (fun _ => (inv_resetWith _ _ _ _).inEvent s.busy) fun _ => h) _ _

theorem cmdWriteConfig (h : InvInEvent s) (value : Byte) : InvInEvent (cmdWriteConfig value s) :=
  h.withLog value s.inbox _

theorem reservedEvent (h : InvInEvent s) (issuer : Issuer) : InvInEvent (reservedEvent issuer s) := by
  cases issuer with
  | host => exact h.respond _ _
  | channel | time | engine => exact h

end InvInEvent

/-! ### Every instruction and every step -/

namespace Inv

variable {s t : State}

theorem receive (h : Inv s) (bytes : List Byte) (now : Time) : Inv (receive bytes now s) :=
  receive_induction (fun byte h => h.event fun h => h.rxByte byte now) bytes h

theorem of_exec (h : Inv s) {i : Instr} (hn : exec i s = .next t) : Inv t := by
  cases rowEffect_of_exec hn with
  | received _ bytes now => exact h.receive bytes now
  | opena now => exact h.event fun h => h.cmdOpenActive now
  | openp now => exact h.event InvInEvent.cmdOpenPassive
  | txpush now eor tag bytes => exact h.event fun h => h.cmdPush bytes eor tag
  | rxpop now => exact h.event InvInEvent.cmdPop
  | close now => exact h.event fun h => h.cmdClose now
  | release now => exact h.event InvInEvent.cmdRelease
  | wrcfg now value => exact h.event fun h => h.cmdWriteConfig value
  | rxb now byte => exact h.event fun h => h.rxByte byte now
  | tmr now => exact h.event fun h => h.timerCheck now
  | dsp now => exact h.event fun h => h.dispatchCheck now

theorem of_runUndecoded (h : Inv s) {a : Arrival} {e : DecodeError} (hn : runUndecoded a e s = .next t) : Inv t := by
  cases a with
  | packet now bytes =>
    obtain rfl := Host.Outcome.next.inj hn
    exact h.receive bytes now
  | event i => exact h.of_exec hn
  | record issuer bytes =>
    cases e with
    | reservedCode n =>
      obtain rfl := Host.Outcome.next.inj hn
      exact h.event fun h => h.reservedEvent issuer
    | codeHighBits | shortRecord | eorByte | longRecord | noSynch | noForm | shortPacket | longPacket => cases hn

end Inv

/-- Settles O45: whatever is presented is received byte by byte or runs as one event, and both keep the invariants. -/
theorem stepKeepsTheInvariants : Obligations.StepKeepsTheInvariants := by
  intro s t h hn
  cases hinbox : s.inbox with
  | nil =>
    rw [step_of_inbox_nil hinbox] at hn
    exact Host.Outcome.next.inj hn ▸ h
  | cons a more =>
    have htaken : Inv { s with inbox := more } := h.withLog s.maxRetries more s.outs
    cases hdecode : decodeArrival a with
    | ok i =>
      rw [step_of_decoded hinbox hdecode] at hn
      exact htaken.of_exec hn
    | error e =>
      rw [step_of_undecoded hinbox hdecode] at hn
      exact htaken.of_runUndecoded hn

end Sys2Proof.Machine
end

section
/-! PROOFS of the family 20_memory.md: the two byte buffers. `rx_pay` has one writer, the framer in phase PAY; what every
other part of an event leaves of it is said part by part. `rtx_buf` is written by SendSeg alone, as one block from index 0. -/

namespace Sys2Proof.Machine

/-! ### A packet step does not touch `rx_pay` (R60) -/

@[simp] theorem dispatch_rxPay (now : Time) (s : State) : (dispatch now s).rxPay = s.rxPay := by
  cases hq : s.txq with
  | nil => simp [dispatch, hq]
  | cons e rest => simp [dispatch_cons hq]

theorem keptByPacket_rxPay (p : Pkt) (now : Time) (m : Memory) : KeptByPacket p now (fun s => s.rxPay = m) where
  emit _ h := h
  sendHeader _ _ _ h := (sendSeg_rxPay _ _ _ _).trans h
  ackAccepted h := (ackAccepted_rxPay _ _).trans h
  fail _ h := (fail_rxPay _ _).trans h
  dispatch h := (dispatch_rxPay _ _).trans h
  store _ _ h := h
  move _ _ _ h := h
  stampTimeWait h := h
  dropSlot h := h

@[simp] theorem packetStep_rxPay (p : Pkt) (now : Time) (s : State) : (packetStep p now s).rxPay = s.rxPay :=
  (keptByPacket_rxPay p now s.rxPay).packetStep rfl

@[simp] theorem handOver_rxPay (bytes : List Byte) (now : Time) (s : State) :
    (handOver bytes now s).rxPay = s.rxPay :=
  packetStep_rxPay _ _ _

/-! ### What one byte does to `rx_pay` (R120 to R129) -/

@[simp] theorem rxHunt_rxPay (byte : Byte) (s : State) : (rxHunt byte s).rxPay = s.rxPay := by
  unfold rxHunt
  split <;> rfl

@[simp] theorem rxChecksum_rxPay (byte : Byte) (now : Time) (s : State) :
    (rxChecksum byte now s).rxPay = s.rxPay := by
  unfold rxChecksum
  split
  · rfl
  · split
    · exact handOver_rxPay _ _ _
    · rfl

@[simp] theorem rxCrcLow_rxPay (byte : Byte) (now : Time) (s : State) : (rxCrcLow byte now s).rxPay = s.rxPay := by
  unfold rxCrcLow
  split
  · exact handOver_rxPay _ _ _
  · rfl

/-- Phase PAY stores the byte at `rx_cnt`, whether or not it is the payload's last (R125). -/
theorem rxPayload_rxPay (byte : Byte) (now : Time) (s : State) :
    (rxPayload byte now s).rxPay = s.rxPay.write s.rxCnt.toNat byte := by
  unfold rxPayload
  dsimp only
  split
  · split
    · rfl
    · exact handOver_rxPay _ _ _
  · rfl

/-- Of the framer's seven phases only PAY writes the buffer. -/
theorem rxPhaseStep_rxPay (byte : Byte) (now : Time) (s : State) :
    (rxPhaseStep byte now s).rxPay =
      if s.rxPhase = .pay then s.rxPay.write s.rxCnt.toNat byte else s.rxPay := by
  unfold rxPhaseStep
  cases s.rxPhase with
  | pay => exact rxPayload_rxPay byte now s
  | hunt => exact rxHunt_rxPay byte s
  | cks => exact rxChecksum_rxPay byte now s
  | crcl => exact rxCrcLow_rxPay byte now s
  | ctl | len | crch => rfl

@[simp] theorem byteTimeout_rxPay (now : Time) (s : State) : (byteTimeout now s).rxPay = s.rxPay := by
  unfold byteTimeout
  split <;> rfl

@[simp] theorem byteTimeout_rxCnt (now : Time) (s : State) : (byteTimeout now s).rxCnt = s.rxCnt := by
  unfold byteTimeout
  split <;> rfl

/-- A payload is still awaited after the timeout test when it was before and the byte is in time (R129). -/
theorem byteTimeout_rxPhase_eq_pay_iff (now : Time) (s : State) :
    (byteTimeout now s).rxPhase = .pay ↔ s.rxPhase = .pay ∧ since s s.rxTs now < s.cfg.tByte.toNat := by
  by_cases hlate : s.cfg.tByte.toNat ≤ since s s.rxTs now
  · by_cases hhunt : s.rxPhase = .hunt <;> simp [byteTimeout, hlate, hhunt]
  · simp [byteTimeout, hlate, Nat.lt_of_not_le hlate]

/-- The one store into `rx_pay`: an RXB while a connection record exists, in phase PAY, in time. -/
theorem rxByte_rxPay (byte : Byte) (now : Time) (s : State) :
    (rxByte byte now s).rxPay =
      if s.opened = true ∧ s.rxPhase = .pay ∧ elapsed s.cfg.timeW s.rxTs now < s.cfg.tByte.toNat then
        s.rxPay.write s.rxCnt.toNat byte
      else s.rxPay := by
  unfold rxByte
  split
  · next hopened =>
    simp only [rxByteAt, rxPhaseStep_rxPay, byteTimeout_rxPhase_eq_pay_iff, byteTimeout_rxPay,
      byteTimeout_rxCnt, hopened, true_and, since, sampled, elapsed_mod_right]
  · next hclosed => simp [hclosed]

/-! ### Timers, dispatch and commands -/

@[simp] theorem timeWaitCheck_rxPay (now : Time) (s : State) : (timeWaitCheck now s).rxPay = s.rxPay := by
  unfold timeWaitCheck
  split
  · exact fail_rxPay _ _
  · rfl

@[simp] theorem retryLimit_rxPay (s : State) : (retryLimit s).rxPay = s.rxPay := by
  unfold retryLimit
  split
  · exact fail_rxPay _ _
  · rfl

@[simp] theorem retransmitCheck_rxPay (now : Time) (s : State) : (retransmitCheck now s).rxPay = s.rxPay := by
  unfold retransmitCheck
  split
  · simp
  · rfl

theorem timerCheck_rxPay (now : Time) (s : State) : (timerCheck now s).rxPay = s.rxPay := by
  unfold timerCheck
  split
  · simp [timerCheckAt]
  · rfl

theorem dispatchCheck_rxPay (now : Time) (s : State) : (dispatchCheck now s).rxPay = s.rxPay := by
  unfold dispatchCheck
  split
  · exact dispatch_rxPay _ _
  · rfl

theorem cmdPush_rxPay (bytes : List Byte) (eor : Bool) (tag : Tag) (s : State) :
    (cmdPush bytes eor tag s).rxPay = s.rxPay := by
  unfold cmdPush
  split
  · rfl
  · split
    · rfl
    · split <;> rfl

theorem cmdPop_rxPay (s : State) : (cmdPop s).rxPay = s.rxPay := by
  unfold cmdPop
  split <;> rfl

theorem cmdClose_rxPay (now : Time) (s : State) : (cmdClose now s).rxPay = s.rxPay := by
  unfold cmdClose
  split
  · exact sendSeg_rxPay _ _ _ _
  · rfl

/-- Settles O19: the byte's event writes at most index `rx_cnt`, and the other events do not reach the buffer. -/
theorem payloadBufferFrame : Obligations.PayloadBufferFrame := by
  constructor
  · intro s t now b hwf hn a
    have hpay := congrArg State.rxPay (eq_event_of_runEvent hn)
    rw [event_rxPay, rxByte_rxPay] at hpay
    rw [hpay]
    by_cases hstore : s.opened = true ∧ s.rxPhase = .pay ∧ elapsed s.cfg.timeW s.rxTs now < s.cfg.tByte.toNat
    · rw [if_pos hstore, Memory.read_write _ _ _ hwf]
      simp [hstore]
    · have hkept : ¬(s.opened = true ∧ s.rxPhase = .pay ∧ elapsed s.cfg.timeW s.rxTs now < s.cfg.tByte.toNat ∧
          a = s.rxCnt.toNat) := fun ⟨hopened, hphase, hintime, _⟩ => hstore ⟨hopened, hphase, hintime⟩
      rw [if_neg hstore, if_neg hkept]
  · intro s t i hn hi a
    suffices hpay : t.rxPay = s.rxPay by rw [hpay]
    rcases hi with ⟨now, eor, tag, bytes, rfl⟩ | ⟨now, rfl⟩ | ⟨now, rfl⟩ | ⟨now, value, rfl⟩ | ⟨now, rfl⟩ | ⟨now, rfl⟩
    · exact eq_event_of_runCommand hn ▸ cmdPush_rxPay bytes eor tag _
    · exact eq_event_of_runCommand hn ▸ cmdPop_rxPay _
    · exact eq_event_of_runCommand hn ▸ cmdClose_rxPay now _
    · exact eq_event_of_runCommand hn ▸ rfl
    · exact eq_event_of_runEvent hn ▸ timerCheck_rxPay now _
    · exact eq_event_of_runEvent hn ▸ dispatchCheck_rxPay now _

/-! ### What SendSeg stores in `rtx_buf` (R191) -/

/-- SendSeg of a retransmittable packet ends by loading the slot; the buffer is untouched until then. -/
theorem sendSeg_eq_loadSlot {p : List Byte} (h : retransmittable p = true) (now : Time) (own : Bool) (s : State) :
    ∃ u : State, u.rtxBuf = s.rtxBuf ∧ sendSeg p now own s = loadSlot p now u := by
  cases own with
  | true => exact ⟨emit p s, rfl, sendSeg_own h now s⟩
  | false => exact ⟨settle .connectionReset (emit p s), by simp, sendSeg_slot h now s⟩

/-- The slot's buffer beyond the packet reads as before (R67). -/
theorem loadSlot_read_of_length_le {p : List Byte} {s : State} (hs : s.rtxBuf.wf rtxBufSize = true)
    (hp : p.length ≤ rtxBufSize) (now : Time) {a : Nat} (ha : p.length ≤ a) :
    (loadSlot p now s).rtxBuf.read a = s.rtxBuf.read a := by
  have houtside : ¬(0 ≤ a ∧ a < 0 + p.length) := by omega
  exact (Memory.read_writeBytes a hs (by omega)).trans (if_neg houtside)

/-- Settles O29: SendSeg stores the packet as one block at the start of the buffer. -/
theorem slotHoldsThePacketVerbatim : Obligations.SlotHoldsThePacketVerbatim := by
  intro p now own s hp hlen hwf
  obtain ⟨u, hbuf, hsend⟩ := sendSeg_eq_loadSlot hp now own s
  rw [← hbuf] at hwf ⊢
  rw [hsend]
  exact ⟨slotPacket_loadSlot hwf hlen now, Memory.writeBytes_wf hwf (by omega),
    fun _ ha => loadSlot_read_of_length_le hwf hlen now ha⟩

end Sys2Proof.Machine
end

section
/-! PROOFS of the family 30_encoding.md, the codec and the decoder: the fields of a control byte, the rows of a header, the
header checksum, and decoding as the inverse of encoding. A header's row is said once, by masks (`RowHolds`), and both the
table's words and the decoder are compared with that. -/

namespace Sys2Proof.Machine

open Sys2Proof.Spec

/-! ### The fields of a control byte (R82, R86) -/

theorem getLsbD_mkCtl (flags : Byte) (sn an : Bool) (j : Nat) :
    (mkCtl flags sn an).getLsbD j = (flags.getLsbD j || sn && decide (3 = j) || an && decide (2 = j)) := by
  simp [mkCtl, getLsbD_bitAt]

theorem getLsbD_dataCtl (flags : Byte) (sn an eor : Bool) (j : Nat) :
    (dataCtl flags sn an eor).getLsbD j = ((mkCtl flags sn an).getLsbD j || eor && decide (1 = j)) := by
  simp [dataCtl, getLsbD_bitAt]

/-! A field that the flags leave clear is the bit put there. -/

theorem ctlSn_mkCtl {flags : Byte} (h : ctlSn flags = false) (sn an : Bool) : ctlSn (mkCtl flags sn an) = sn := by
  rw [ctlSn, getLsbD_mkCtl, show flags.getLsbD 3 = false from h]
  simp

theorem ctlAn_mkCtl {flags : Byte} (h : ctlAn flags = false) (sn an : Bool) : ctlAn (mkCtl flags sn an) = an := by
  rw [ctlAn, getLsbD_mkCtl, show flags.getLsbD 2 = false from h]
  simp

theorem ctlSn_dataCtl {flags : Byte} (h : ctlSn flags = false) (sn an eor : Bool) :
    ctlSn (dataCtl flags sn an eor) = sn := by
  rw [ctlSn, getLsbD_dataCtl, show (mkCtl flags sn an).getLsbD 3 = sn from ctlSn_mkCtl h sn an]
  simp

theorem ctlAn_dataCtl {flags : Byte} (h : ctlAn flags = false) (sn an eor : Bool) :
    ctlAn (dataCtl flags sn an eor) = an := by
  rw [ctlAn, getLsbD_dataCtl, show (mkCtl flags sn an).getLsbD 2 = an from ctlAn_mkCtl h sn an]
  simp

theorem ctlEor_dataCtl {flags : Byte} (h : ctlEor flags = false) (sn an eor : Bool) :
    ctlEor (dataCtl flags sn an eor) = eor := by
  rw [ctlEor, getLsbD_dataCtl, getLsbD_mkCtl, show flags.getLsbD 1 = false from h]
  simp

theorem ctlAck_dataCtl (flags : Byte) (sn an eor : Bool) : ctlAck (dataCtl flags sn an eor) = ctlAck flags := by
  rw [ctlAck, getLsbD_dataCtl, getLsbD_mkCtl, ctlAck]
  simp

theorem ctlSo_mkCtl (flags : Byte) (sn an : Bool) : ctlSo (mkCtl flags sn an) = ctlSo flags := by
  rw [ctlSo, getLsbD_mkCtl, ctlSo]
  simp

theorem ctlSo_dataCtl (flags : Byte) (sn an eor : Bool) : ctlSo (dataCtl flags sn an eor) = ctlSo flags := by
  rw [← ctlSo_mkCtl flags sn an, ctlSo, getLsbD_dataCtl, ctlSo]
  simp

/-! A control byte is its flags with its other bits put back (R86). -/

theorem mkCtl_of_masked {c flags : Byte} (h : c &&& 0xF3 = flags) : mkCtl flags (ctlSn c) (ctlAn c) = c := by
  subst h
  revert c
  decide

theorem mkCtl_of_an_masked {c flags : Byte} (h : c &&& 0xFB = flags) : mkCtl flags false (ctlAn c) = c := by
  subst h
  revert c
  decide

theorem mkCtl_of_sn_masked {c flags : Byte} (h : c &&& 0xF7 = flags) : mkCtl flags (ctlSn c) false = c := by
  subst h
  revert c
  decide

theorem dataCtl_of_masked {c flags : Byte} (h : c &&& 0xF1 = flags) :
    dataCtl flags (ctlSn c) (ctlAn c) (ctlEor c) = c := by
  subst h
  revert c
  decide

theorem dataCtl_of_ack_masked {c : Byte} (h : c &&& 0xB1 = 0) :
    dataCtl (bitAt (ctlAck c) 6) (ctlSn c) (ctlAn c) (ctlEor c) = c := by
  revert c
  decide

/-! ### The rows of a header (R101) -/

/-- What a packet row asks of a header's control byte and length byte: the masked control byte, and the length where the
row fixes it. -/
def RowHolds (f : Form) (c l : Byte) : Prop :=
  match f with
  | .syn => c = 0x80 ∧ l = 0xFF
  | .synack => c &&& 0xFB = 0xC0 ∧ l = 0xFF
  | .ack => c &&& 0xF3 = 0x40 ∧ l = 0
  | .rst => c &&& 0xF7 = 0x10 ∧ l = 0
  | .rstack => c &&& 0xF3 = 0x50 ∧ l = 0
  | .finack => c &&& 0xF3 = 0x60 ∧ l = 0
  | .data => c &&& 0xF1 = 0x40 ∧ 2 ≤ l.toNat
  | .data1 => c &&& 0xF1 = 0x41
  | .datap1 => c &&& 0xB1 = 0 ∧ l = 1

theorem formOf_synack (an : Bool) : formOf (mkCtl 0xC0 false an) 0xFF = some .synack := by revert an; decide
theorem formOf_ack (sn an : Bool) : formOf (mkCtl 0x40 sn an) 0 = some .ack := by revert sn an; decide
theorem formOf_rst (sn : Bool) : formOf (mkCtl 0x10 sn false) 0 = some .rst := by revert sn; decide
theorem formOf_rstack (sn an : Bool) : formOf (mkCtl 0x50 sn an) 0 = some .rstack := by revert sn an; decide
theorem formOf_finack (sn an : Bool) : formOf (mkCtl 0x60 sn an) 0 = some .finack := by revert sn an; decide
theorem formOf_datap1 (ackf sn an eor : Bool) : formOf (dataCtl (bitAt ackf 6) sn an eor) 1 = some .datap1 := by
  revert ackf sn an eor; decide

/-- The control byte of the SO form, as the encoder and as `build_data` write it (R88, R115). -/
theorem dataCtl_so (sn an eor : Bool) : dataCtl 0x41 sn an eor = dataCtl 0x40 sn an eor ||| 0x01 := by
  revert sn an eor; decide

theorem formOf_so (sn an eor : Bool) (b : Byte) : formOf (dataCtl 0x41 sn an eor) b = some .data1 := by
  rw [dataCtl_so, formOf_data1]

/-- Each branch of `formOf` is taken under the condition of its row. -/
theorem rowHolds_of_formOf {c l : Byte} {f : Form} (h : formOf c l = some f) : RowHolds f c l := by
  unfold formOf at h
  simp only [Bool.and_eq_true, beq_iff_eq, decide_eq_true_eq] at h
  repeat' split at h
  all_goals cases h
  all_goals assumption

/-- The rows exclude each other, so the order in which `formOf` tries them plays no part. -/
theorem formOf_of_rowHolds {c l : Byte} {f : Form} (h : RowHolds f c l) : formOf c l = some f := by
  cases f with
  | syn =>
    obtain ⟨rfl, rfl⟩ := h
    rfl
  | synack =>
    obtain ⟨hc, rfl⟩ := h
    rw [← mkCtl_of_an_masked hc, formOf_synack]
  | ack =>
    obtain ⟨hc, rfl⟩ := h
    rw [← mkCtl_of_masked hc, formOf_ack]
  | rst =>
    obtain ⟨hc, rfl⟩ := h
    rw [← mkCtl_of_sn_masked hc, formOf_rst]
  | rstack =>
    obtain ⟨hc, rfl⟩ := h
    rw [← mkCtl_of_masked hc, formOf_rstack]
  | finack =>
    obtain ⟨hc, rfl⟩ := h
    rw [← mkCtl_of_masked hc, formOf_finack]
  | data =>
    obtain ⟨hc, hl⟩ := h
    rw [← dataCtl_of_masked hc, formOf_data _ _ _ hl]
  | data1 => rw [← dataCtl_of_masked h, formOf_so]
  | datap1 =>
    obtain ⟨hc, rfl⟩ := h
    rw [← dataCtl_of_ack_masked hc, formOf_datap1]

theorem formOf_eq_some_iff {c l : Byte} {f : Form} : formOf c l = some f ↔ RowHolds f c l :=
  ⟨rowHolds_of_formOf, formOf_of_rowHolds⟩

theorem append_inj_iff {v w : Nat} {a a' : BitVec v} {b b' : BitVec w} :
    a ++ b = a' ++ b' ↔ a = a' ∧ b = b' := by
  constructor
  · intro h
    have hleft := congrArg (BitVec.extractLsb' w v) h
    have hright := congrArg (BitVec.extractLsb' 0 w) h
    simp only [BitVec.extractLsb'_append_eq_left, BitVec.extractLsb'_append_eq_right] at hleft hright
    exact ⟨hleft, hright⟩
  · rintro ⟨rfl, rfl⟩
    rfl

theorem join32_and (a b c d a' b' c' d' : Byte) :
    join32 a b c d &&& join32 a' b' c' d' = join32 (a &&& a') (b &&& b') (c &&& c') (d &&& d') :=
  (BitVec.and_append (x₁ := a ++ b ++ c)).trans (by rw [BitVec.and_append, BitVec.and_append]; rfl)

theorem join32_inj {a b c d a' b' c' d' : Byte} :
    join32 a b c d = join32 a' b' c' d' ↔ a = a' ∧ b = b' ∧ c = c' ∧ d = d' :=
  (append_inj_iff (a := a ++ b ++ c)).trans (by simp only [append_inj_iff, and_assoc])

/-- A mask that leaves the checksum out compares the other three bytes of a header word one by one (R81). -/
theorem headerWord_matches_iff (f : Form) (c l k mc ml vc vl : Byte) (hmask : rowMask f = join32 0xFF mc ml 0)
    (hmatch : rowMatch f = join32 synch vc vl 0) :
    headerWord c l k &&& rowMask f = rowMatch f ↔ c &&& mc = vc ∧ l &&& ml = vl := by
  have hsynch : synch &&& 0xFF = synch := rfl
  rw [hmask, hmatch, headerWord, join32_and, join32_inj, hsynch]
  simp

/-- The table's words are the rows (R101). -/
theorem rowHolds_iff (f : Form) (c l k : Byte) :
    (headerWord c l k &&& rowMask f = rowMatch f ∧ (f = .data → 2 ≤ l.toNat)) ↔ RowHolds f c l := by
  have hall (x : Byte) : x &&& 255#8 = x := BitVec.and_allOnes
  cases f with
  | syn => simp [RowHolds, hall, headerWord_matches_iff .syn c l k 0xFF 0xFF 0x80 0xFF rfl rfl]
  | synack => simp [RowHolds, hall, headerWord_matches_iff .synack c l k 0xFB 0xFF 0xC0 0xFF rfl rfl]
  | ack => simp [RowHolds, hall, headerWord_matches_iff .ack c l k 0xF3 0xFF 0x40 0 rfl rfl]
  | rst => simp [RowHolds, hall, headerWord_matches_iff .rst c l k 0xF7 0xFF 0x10 0 rfl rfl]
  | rstack => simp [RowHolds, hall, headerWord_matches_iff .rstack c l k 0xF3 0xFF 0x50 0 rfl rfl]
  | finack => simp [RowHolds, hall, headerWord_matches_iff .finack c l k 0xF3 0xFF 0x60 0 rfl rfl]
  | data => simp [RowHolds, headerWord_matches_iff .data c l k 0xF1 0 0x40 0 rfl rfl]
  | data1 => simp [RowHolds, headerWord_matches_iff .data1 c l k 0xF1 0 0x41 0 rfl rfl]
  | datap1 => simp [RowHolds, hall, headerWord_matches_iff .datap1 c l k 0xB1 0xFF 0 1 rfl rfl]

/-- Settles O2: the decoder's conditions and the table's words are the same rows. -/
theorem headerRowsFollowMatchAndMask : Obligations.HeaderRowsFollowMatchAndMask :=
  fun c l k f => formOf_eq_some_iff.trans (rowHolds_iff f c l k).symm

/-! ### The header checksum (R84) -/

theorem headerOk_iff (c l k : Byte) : headerOk c l k = true ↔ (c.toNat + l.toNat + k.toNat) % 256 = 0xFF := by
  rw [headerOk, beq_iff_eq]
  bv_omega

/-- The writer's checksum is the only one that the receiver accepts. -/
theorem headerOk_iff_eq (c l k : Byte) : headerOk c l k = true ↔ k = headerChecksum c l := by
  have hcomplement : headerChecksum c l = ~~~(c + l) := BitVec.xor_allOnes
  rw [headerOk, beq_iff_eq, hcomplement]
  bv_omega

/-- Settles O9, from the check as a sum and from the one checksum that passes it. -/
theorem headerChecksumIsTheOneThatValidates : Obligations.HeaderChecksumIsTheOneThatValidates := by
  intro c l k
  refine ⟨?_, headerOk_iff c l k, ?_⟩
  · have hsum : BitVec.ofNat 8 ((c.toNat + l.toNat) % 256) = c + l := by bv_omega
    rw [hsum]
    rfl
  · rw [headerOk_iff_eq]
    simp [makeHeader, headerBytes, synch, eq_comm]

/-! ### Words written out -/

/-- Settles O3, by running the decoder on each word. -/
theorem writtenOutWordsDecode : Obligations.WrittenOutWordsDecode :=
  ⟨by rfl, by rfl, by rfl, by rfl, by rfl, by rfl, by rfl⟩

/-! ### Decoding of encoded packets and records (R88, R98) -/

theorem decodeArrival_packet {now : Time} {bytes : List Byte} {i : Instr} (h : decodePacket now bytes = .ok (i, [])) :
    decodeArrival (.packet now bytes) = .ok i := by
  simp [decodeArrival, h]

theorem decodeArrival_record {bytes : List Byte} {i : Instr} (h : decodeRecord bytes = .ok (i, [])) (who : Issuer) :
    decodeArrival (.record who bytes) = .ok i := by
  simp [decodeArrival, h]

section

variable {c l : Byte} (now : Time) (k : Byte) (rest : List Byte)

theorem decodePacket_syn (h : formOf c l = some .syn) :
    decodePacket now (headerBytes c l k ++ rest) = .ok (.syn now k, rest) := by
  simp [decodePacket, headerBytes, h]

theorem decodePacket_synack (h : formOf c l = some .synack) :
    decodePacket now (headerBytes c l k ++ rest) = .ok (.synack now (ctlAn c) k, rest) := by
  simp [decodePacket, headerBytes, h]

theorem decodePacket_ack (h : formOf c l = some .ack) :
    decodePacket now (headerBytes c l k ++ rest) = .ok (.ack now (ctlSn c) (ctlAn c) k, rest) := by
  simp [decodePacket, headerBytes, h]

theorem decodePacket_rst (h : formOf c l = some .rst) :
    decodePacket now (headerBytes c l k ++ rest) = .ok (.rst now (ctlSn c) k, rest) := by
  simp [decodePacket, headerBytes, h]

theorem decodePacket_rstack (h : formOf c l = some .rstack) :
    decodePacket now (headerBytes c l k ++ rest) = .ok (.rstack now (ctlSn c) (ctlAn c) k, rest) := by
  simp [decodePacket, headerBytes, h]

theorem decodePacket_finack (h : formOf c l = some .finack) :
    decodePacket now (headerBytes c l k ++ rest) = .ok (.finack now (ctlSn c) (ctlAn c) k, rest) := by
  simp [decodePacket, headerBytes, h]

theorem decodePacket_data1 (h : formOf c l = some .data1) :
    decodePacket now (headerBytes c l k ++ rest) = .ok (.data1 now (ctlSn c) (ctlAn c) (ctlEor c) l k, rest) := by
  simp [decodePacket, headerBytes, h]

theorem decodePacket_datap1 (h : formOf c l = some .datap1) (b : Byte) :
    decodePacket now (headerBytes c l k ++ b :: rest) =
      .ok (.datap1 now (ctlAck c) (ctlSn c) (ctlAn c) (ctlEor c) k b, rest) := by
  simp [decodePacket, headerBytes, h]

/-- The payload of layout PC ends where `data_length` says, and the CRC follows it. -/
theorem decodePacket_data (h : formOf c l = some .data) {payload : List Byte} (hlen : payload.length = l.toNat)
    (crc : BitVec 16) :
    decodePacket now (headerBytes c l k ++ (payload ++ (crcBytes crc ++ rest))) =
      .ok (.data now (ctlSn c) (ctlAn c) (ctlEor c) k payload crc, rest) := by
  simp [decodePacket, headerBytes, crcBytes, h, ← hlen, join16_hi_lo]

end

theorem decodeRecord_recordBytes {code : Byte} {now : Time} (hcode : code &&& 0xF0 = 0) (hnow : NowFits now)
    (operands : List Byte) : decodeRecord (recordBytes code now operands) = decodeEvent code.toNat now operands := by
  have hbits : (code &&& 0xF0 != 0) = false := by rw [hcode]; rfl
  have hnow' : (BitVec.ofNat 32 now).toNat = now := Nat.mod_eq_of_lt hnow
  simp only [decodeRecord, recordBytes, bytes32, List.cons_append, List.nil_append, hbits, join32_bytes32, hnow']
  rfl

theorem decodePush_operands (now : Time) (eor : Bool) {tag : Tag} {bytes : List Byte} (htag : TagFits tag)
    (hbytes : PushFits bytes) :
    decodePush now ([bitAt eor 0, hi16 (BitVec.ofNat 16 tag), lo16 (BitVec.ofNat 16 tag), lenByte bytes] ++ bytes) =
      .ok (.txpush now eor tag bytes, []) := by
  have hlen : (lenByte bytes).toNat = bytes.length := toNat_lenByte hbytes
  have htag' : (BitVec.ofNat 16 tag).toNat = tag := Nat.mod_eq_of_lt htag
  simp only [decodePush, List.cons_append, List.nil_append, hlen, join16_hi_lo, htag']
  cases eor <;> simp [bitAt]

/-- Settles O1, row by row. -/
theorem decodeOfEncodeIsTheInstruction : Obligations.DecodeOfEncodeIsTheInstruction := by
  intro i hi
  cases i with
  | syn now k => exact decodeArrival_packet (decodePacket_syn now k [] rfl)
  | synack now an k =>
    have h := decodePacket_synack now k [] (formOf_synack an)
    rw [ctlAn_mkCtl rfl] at h
    exact decodeArrival_packet h
  | ack now sn an k =>
    have h := decodePacket_ack now k [] (formOf_ack sn an)
    rw [ctlSn_mkCtl rfl, ctlAn_mkCtl rfl] at h
    exact decodeArrival_packet h
  | rst now sn k =>
    have h := decodePacket_rst now k [] (formOf_rst sn)
    rw [ctlSn_mkCtl rfl] at h
    exact decodeArrival_packet h
  | rstack now sn an k =>
    have h := decodePacket_rstack now k [] (formOf_rstack sn an)
    rw [ctlSn_mkCtl rfl, ctlAn_mkCtl rfl] at h
    exact decodeArrival_packet h
  | finack now sn an k =>
    have h := decodePacket_finack now k [] (formOf_finack sn an)
    rw [ctlSn_mkCtl rfl, ctlAn_mkCtl rfl] at h
    exact decodeArrival_packet h
  | data now sn an eor k payload crc =>
    obtain ⟨h2, h255⟩ : DataFits payload := of_decide_eq_true hi
    have hlen := toNat_lenByte h255
    have h := decodePacket_data now k [] (formOf_data sn an eor (hlen.symm ▸ h2)) hlen.symm crc
    rw [ctlSn_dataCtl rfl, ctlAn_dataCtl rfl, ctlEor_dataCtl rfl, ← List.append_assoc, List.append_nil] at h
    exact decodeArrival_packet h
  | data1 now sn an eor b k =>
    have h := decodePacket_data1 now k [] (formOf_so sn an eor b)
    rw [ctlSn_dataCtl rfl, ctlAn_dataCtl rfl, ctlEor_dataCtl rfl] at h
    exact decodeArrival_packet h
  | datap1 now ackf sn an eor k b =>
    have hflags : ctlSn (bitAt ackf 6) = false ∧ ctlAn (bitAt ackf 6) = false ∧ ctlEor (bitAt ackf 6) = false ∧
        ctlAck (bitAt ackf 6) = ackf := by
      cases ackf <;> decide
    obtain ⟨hsn, han, heor, hack⟩ := hflags
    have h := decodePacket_datap1 now k [] (formOf_datap1 ackf sn an eor) b
    rw [ctlAck_dataCtl, hack, ctlSn_dataCtl hsn, ctlAn_dataCtl han, ctlEor_dataCtl heor] at h
    exact decodeArrival_packet h
  | txpush now eor tag bytes =>
    obtain ⟨hnow, htag, hbytes⟩ := of_decide_eq_true hi
    refine decodeArrival_record ?_ .host
    exact (decodeRecord_recordBytes (code := 0x3) rfl hnow _).trans (decodePush_operands now eor htag hbytes)
  | opena now | openp now | rxpop now | close now | release now | wrcfg now value | rxb now byte | tmr now | dsp now =>
    exact decodeArrival_record (decodeRecord_recordBytes rfl (of_decide_eq_true hi) _) _

/-! ### Reserved event codes (R97) -/

theorem decodePush_not_reserved (now : Time) (bytes : List Byte) (n : Nat) :
    decodePush now bytes ≠ .error (.reservedCode n) := by
  unfold decodePush
  split
  · split
    · nofun
    · split <;> nofun
  · nofun

/-- The operands of an event play no part in whether its code is reserved. -/
theorem decodeEvent_reserved_iff {code : Nat} (hcode : code < 16) (now : Time) (bytes : List Byte) :
    (∃ n, decodeEvent code now bytes = .error (.reservedCode n)) ↔ code = 0 ∨ 0xB ≤ code := by
  cases bytes <;> interval_cases code <;> simp [decodeEvent, decodePush_not_reserved]

theorem step_of_record_error {s : State} {who : Issuer} {bytes : List Byte} {more : List Arrival} {e : DecodeError}
    (h : s.inbox = .record who bytes :: more) (he : decodeRecord bytes = .error e) :
    step s = runUndecoded (.record who bytes) e { s with inbox := more } :=
  step_of_undecoded h (by simp [decodeArrival, he])

/-- A reserved code changes nothing but the host's response, from `busy` = 0 (R97). -/
theorem event_reservedEvent (who : Issuer) {s : State} (h : s.busy = false) :
    event (reservedEvent who) s =
      { s with outs := s.outs ++ if who = .host then [.respond .refused none] else [] } := by
  cases who <;> simp [event, reservedEvent, respond, ← h]

/-- Settles O4: the code alone decides, and the step is the answer's event. -/
theorem reservedCodesAreAnsweredRefused : Obligations.ReservedCodesAreAnsweredRefused := by
  constructor
  · intro b t3 t2 t1 t0 rest hb
    have hhigh : (b &&& 0xF0 != 0) = false := by
      revert b
      decide
    have hzero : b = 0 ↔ b.toNat = 0 := by bv_omega
    simp only [decodeRecord, hhigh, hzero]
    exact decodeEvent_reserved_iff hb _ rest
  · intro s who bytes more n hinbox hbusy herror
    rw [step_of_record_error hinbox herror]
    exact congrArg Host.Outcome.next (event_reservedEvent who hbusy)

/-! ### A packet form is the reception of its bytes (R100) -/

theorem execAll_rxb (now : Time) (bytes : List Byte) (s : State) :
    execAll (bytes.map (.rxb now)) s = .next (receive bytes now s) := by
  induction bytes generalizing s with
  | nil => rfl
  | cons b rest ih => exact ih (event (rxByte b now) s)

theorem exec_of_encode_packet {i : Instr} {now : Time} {bytes : List Byte} (h : encode i = .packet now bytes)
    (s : State) : exec i s = .next (receive bytes now s) := by
  cases i with
  | syn now' k | synack now' an k | ack now' sn an k | rst now' sn k | rstack now' sn an k | finack now' sn an k
  | data now' sn an eor k payload crc | data1 now' sn an eor b k | datap1 now' ackf sn an eor k b =>
    obtain ⟨rfl, rfl⟩ := Arrival.packet.inj h
    rfl
  | opena _ | openp _ | txpush _ _ _ _ | rxpop _ | close _ | release _ | wrcfg _ _ | rxb _ _ | tmr _ | dsp _ => cases h

/-- Settles O6: both sides are the reception of the packet's bytes. -/
theorem packetFormIsTheRxbsOfItsBytes : Obligations.PacketFormIsTheRxbsOfItsBytes :=
  fun _ now bytes s h => (exec_of_encode_packet h s).trans (execAll_rxb now bytes s).symm

end Sys2Proof.Machine
end

section
/-! PROOFS of the family 30_encoding.md, reception: a packet that arrives whole while the framer hunts goes through the
framer's phases one after the other and ends in the packet step. The reception is followed phase by phase on any header
(layouts H, P1 and PC of R87); the rows of the table and the packets of no row are both cases of that. -/

namespace Sys2Proof.Machine

open Sys2Proof.Spec

/-! ### What a header announces (R113, R117, R118) -/

theorem follow_of_two_le {c l : Byte} (hso : ctlSo c = false) (hdata : hasData c l = true) (hl : 2 ≤ l.toNat) :
    follow c l = (l.toNat, 2) := by
  have hone : l ≠ 1#8 := by
    rintro rfl
    exact absurd hl (by decide)
  simp [follow, hso, hdata, hone]

/-- Layout PC is announced by the SO bit clear and a length of 2 or more. -/
theorem of_follow_eq_crc {c l : Byte} {n : Nat} (h : follow c l = (n, 2)) :
    ctlSo c = false ∧ hasData c l = true ∧ n = l.toNat ∧ 2 ≤ n := by
  unfold follow at h
  split at h
  · simp at h
  next hannounced =>
  split at h
  · simp at h
  next hone =>
  obtain ⟨hso, hdata⟩ : ctlSo c = false ∧ hasData c l = true := by simpa using hannounced
  have hn : l.toNat = n := congrArg Prod.fst h
  have hzero := ne_zero_of_hasData hso hdata
  have hone' : l ≠ 1 := by simpa using hone
  exact ⟨hso, hdata, hn.symm, by bv_omega⟩

/-- Layout P1 is announced by the SO bit clear and a length of 1. -/
theorem of_follow_eq_one {c l : Byte} (h : follow c l = (1, 0)) : l = 1 := by
  unfold follow at h
  split at h
  · simp at h
  · split at h
    · next hone => simpa using hone
    · simp at h

theorem hasData_of_so {c : Byte} (h : ctlSo c = true) (l : Byte) : hasData c l = true := by simp [hasData, h]

theorem payloadOf_of_so {c : Byte} (h : ctlSo c = true) (l : Byte) (pay : List Byte) : payloadOf c l pay = [l] := by
  simp [payloadOf, h]

theorem payloadOf_of_noData {c l : Byte} (hso : ctlSo c = false) (h : hasData c l = false) (pay : List Byte) :
    payloadOf c l pay = [] := by
  simp [payloadOf, hso, h]

theorem payloadOf_of_data {c l : Byte} (hso : ctlSo c = false) (h : hasData c l = true) (pay : List Byte) :
    payloadOf c l pay = pay := by
  simp [payloadOf, hso, h]

/-- A header that nothing follows has its payload in itself or none at all, whatever `rx_pay` holds. -/
theorem payloadOf_of_follow_zero {c l : Byte} (h : follow c l = (0, 0)) (pay : List Byte) :
    payloadOf c l pay = payloadOf c l [] := by
  cases hso : ctlSo c with
  | true => rw [payloadOf_of_so hso, payloadOf_of_so hso]
  | false =>
    have hdata : hasData c l = false := by simpa [hso] using (follow_eq_zero_iff c l).mp h
    rw [payloadOf_of_noData hso hdata, payloadOf_of_noData hso hdata]

/-! ### Events by what they do from `busy` = 1 (R35) -/

theorem event_eq_of_update {f : State → State} {s t : State} (h : f { s with busy := true } = t) :
    event f s = { t with busy := false } := by
  rw [event, h]

theorem event_congr {f g : State → State} {s t : State} (h : f { s with busy := true } = g { t with busy := true }) :
    event f s = event g t := by
  rw [event, event, h]

/-! ### A byte in time (R120, R129) -/

/-- The next byte at `now` continues what the framer is doing: nothing has been begun, or `T_BYTE` has not passed. -/
def InTime (s : State) (now : Time) : Prop :=
  s.opened = true ∧ (s.rxPhase = .hunt ∨ since s s.rxTs now < s.cfg.tByte.toNat)

theorem byteTimeout_of_inTime {s : State} {now : Time} (h : InTime s now) : byteTimeout (stamp s now) s = s := by
  refine if_neg fun hlate => ?_
  obtain ⟨hphase, htime⟩ := hlate
  have hsince : since s s.rxTs (stamp s now) = since s s.rxTs now := since_sampled s _ now
  have hintime := h.2.resolve_left hphase
  omega

/-- A byte in time is stamped and goes to the phase the framer is in. -/
theorem event_rxByte_of_inTime {s : State} {now : Time} (h : InTime s now) (byte : Byte) :
    event (rxByte byte now) s = event (rxPhaseStep byte (stamp s now)) { s with rxTs := stamp s now } := by
  have hbusy : InTime { s with busy := true } now := h
  have hbyte : rxByte byte now { s with busy := true } =
      rxPhaseStep byte (stamp s now) { byteTimeout (stamp s now) { s with busy := true } with rxTs := stamp s now } :=
    if_pos h.1
  rw [event, hbyte, show byteTimeout (stamp s now) { s with busy := true } = _ from byteTimeout_of_inTime hbusy]
  rfl

/-- Between the bytes of a packet that arrives at `now`: each further byte is in time, for `T_BYTE` is not 0. -/
structure MidPacket (s : State) (now : Time) : Prop where
  opened : s.opened = true
  tByte : s.cfg.tByte ≠ 0
  stamped : s.rxTs = stamp s now
  idle : s.busy = false

theorem MidPacket.inTime {s : State} {now : Time} (h : MidPacket s now) : InTime s now := by
  refine ⟨h.opened, .inr ?_⟩
  rw [since, h.stamped, stamp, elapsed_mod_left, elapsed_self]
  exact BitVec.toNat_pos_of_ne_zero h.tByte

theorem MidPacket.event_rxByte {s : State} {now : Time} (h : MidPacket s now) (byte : Byte) :
    event (rxByte byte now) s = event (rxPhaseStep byte (stamp s now)) s := by
  rw [event_rxByte_of_inTime h.inTime, ← h.stamped]

/-! ### Each phase of a packet (R121 to R127) -/

/-- The framer in phase `ph` of a packet that arrives at `now`, with the header bytes `c` and `l` in its registers. -/
def awaiting (ph : RxPhase) (c l : Byte) (now : Time) (s : State) : State :=
  { afterHeader c l now s with rxPhase := ph, busy := false }

theorem midPacket_awaiting {s : State} (h : HuntReady s) (ph : RxPhase) (c l : Byte) (now : Time) :
    MidPacket (awaiting ph c l now s) now := by
  obtain ⟨hopened, -, htByte⟩ := h
  exact ⟨hopened, htByte, rfl, rfl⟩

/-- Phases HUNT, CTL and LEN. -/
theorem receive_header {s : State} (h : HuntReady s) (c l : Byte) (rest : List Byte) (now : Time) :
    receive (synch :: c :: l :: rest) now s = receive rest now (awaiting .cks c l now s) := by
  have hsynch : event (rxByte synch now) s = awaiting .ctl s.rxCtl s.rxLen now s := by
    obtain ⟨hopened, hhunt, -⟩ := h
    rw [event_rxByte_of_inTime ⟨hopened, .inl hhunt⟩]
    simp [event, rxPhaseStep, hhunt, rxHunt, awaiting, afterHeader]
  have hctl : event (rxByte c now) (awaiting .ctl s.rxCtl s.rxLen now s) = awaiting .len c s.rxLen now s :=
    (midPacket_awaiting h _ _ _ now).event_rxByte c
  have hlen : event (rxByte l now) (awaiting .len c s.rxLen now s) = awaiting .cks c l now s :=
    (midPacket_awaiting h _ _ _ now).event_rxByte l
  simp only [receive, hsynch, hctl, hlen]

/-- Phase CKS on a header that nothing follows: the packet is handed over. -/
theorem rxChecksum_of_headerOnly {s : State} {k : Byte} (hok : headerOk s.rxCtl s.rxLen k = true)
    (hfollow : follow s.rxCtl s.rxLen = (0, 0)) (now : Time) :
    rxChecksum k now s =
      packetStep ⟨s.rxCtl, s.rxLen, payloadOf s.rxCtl s.rxLen []⟩ now { s with rxPhase := .hunt } := by
  simp [rxChecksum, hok, hfollow, handOver, payloadOf_of_follow_zero hfollow]

/-- Phase CKS on a header that announces a payload. -/
theorem rxChecksum_of_payload {s : State} {k : Byte} (hok : headerOk s.rxCtl s.rxLen k = true)
    (hfollow : follow s.rxCtl s.rxLen ≠ (0, 0)) (now : Time) :
    rxChecksum k now s = { s with rxCnt := 0, rxPhase := .pay } := by
  simp [rxChecksum, hok, hfollow]

/-- Phase PAY before the payload's last byte. -/
theorem rxPayload_of_more {s : State} (h : s.rxCnt + 1 ≠ s.rxLen) (byte : Byte) (now : Time) :
    rxPayload byte now s = { s with rxPay := s.rxPay.write s.rxCnt.toNat byte, rxCnt := s.rxCnt + 1 } :=
  if_neg h

/-- Phase PAY on the last byte of a payload that a CRC follows. -/
theorem rxPayload_of_last {s : State} (h : s.rxCnt + 1 = s.rxLen) (hlen : 2 ≤ s.rxLen.toNat) (byte : Byte)
    (now : Time) :
    rxPayload byte now s =
      { s with rxPay := s.rxPay.write s.rxCnt.toNat byte, rxCnt := s.rxLen, rxPhase := .crch } := by
  have hlong : 1 < s.rxLen.toNat := hlen
  exact (if_pos h).trans ((if_pos hlong).trans (by rw [h]))

/-- Phase PAY on the one byte of layout P1. -/
theorem rxPayload_of_single {s : State} (hcnt : s.rxCnt = 0) (hlen : s.rxLen = 1) (hwf : s.rxPay.wf rxPaySize = true)
    (byte : Byte) (now : Time) :
    rxPayload byte now s =
      packetStep ⟨s.rxCtl, s.rxLen, [byte]⟩ now
        { s with rxPay := s.rxPay.write 0 byte, rxCnt := 1, rxPhase := .hunt } := by
  have hread : (s.rxPay.write 0 byte).read 0 = byte := by simpa using Memory.read_write 0 0 byte hwf
  simp [rxPayload, hcnt, hlen, handOver, payBytes, Memory.readBytes, hread]

/-- Phase CRCL: the packet is handed over when the CRC is that of the payload, and dropped otherwise. -/
theorem rxCrcLow_eq {s : State} {crc : BitVec 16} (hhigh : s.rxCrcHi = hi16 crc) (now : Time) :
    rxCrcLow (lo16 crc) now s =
      if crc = crc16 s.cfg.crc (payBytes s.rxLen.toNat s) then
        packetStep ⟨s.rxCtl, s.rxLen, payBytes s.rxLen.toNat s⟩ now { s with rxPhase := .hunt }
      else { s with rxPhase := .hunt } := by
  have hjoin : join16 s.rxCrcHi (lo16 crc) = crc := by rw [hhigh, join16_hi_lo]
  rw [rxCrcLow, hjoin, handOver]

theorem MidPacket.event_pay {s : State} {now : Time} (h : MidPacket s now) (hphase : s.rxPhase = .pay) (byte : Byte) :
    event (rxByte byte now) s = event (rxPayload byte (stamp s now)) s := by
  rw [h.event_rxByte]
  exact event_congr (by simp [rxPhaseStep, hphase])

theorem MidPacket.event_payMore {s : State} {now : Time} (h : MidPacket s now) (hphase : s.rxPhase = .pay)
    (hmore : s.rxCnt + 1 ≠ s.rxLen) (byte : Byte) :
    event (rxByte byte now) s =
      { s with rxPay := s.rxPay.write s.rxCnt.toNat byte, rxCnt := s.rxCnt + 1, busy := false } :=
  (h.event_pay hphase byte).trans (event_eq_of_update (rxPayload_of_more (s := { s with busy := true }) hmore byte _))

theorem MidPacket.event_payLast {s : State} {now : Time} (h : MidPacket s now) (hphase : s.rxPhase = .pay)
    (hlast : s.rxCnt + 1 = s.rxLen) (hlen : 2 ≤ s.rxLen.toNat) (byte : Byte) :
    event (rxByte byte now) s =
      { s with rxPay := s.rxPay.write s.rxCnt.toNat byte, rxCnt := s.rxLen, rxPhase := .crch, busy := false } :=
  (h.event_pay hphase byte).trans
    (event_eq_of_update (rxPayload_of_last (s := { s with busy := true }) hlast hlen byte _))

/-- Phase PAY on the whole payload of layout PC (R125). -/
theorem receive_payload {payload : List Byte} (hne : payload ≠ []) {s : State} {now : Time} (h : MidPacket s now)
    (hphase : s.rxPhase = .pay) (hcnt : s.rxCnt.toNat + payload.length = s.rxLen.toNat) (hlen : 2 ≤ s.rxLen.toNat)
    (rest : List Byte) :
    receive (payload ++ rest) now s =
      receive rest now
        { s with
          rxPay := s.rxPay.writeBytes s.rxCnt.toNat payload, rxCnt := s.rxLen, rxPhase := .crch, busy := false } := by
  induction payload generalizing s with
  | nil => exact absurd rfl hne
  | cons b tail ih =>
    rw [List.length_cons] at hcnt
    by_cases htail : tail = []
    · have hlast : s.rxCnt + 1 = s.rxLen := by
        rw [htail, List.length_nil] at hcnt
        bv_omega
      rw [htail, List.cons_append, receive, h.event_payLast hphase hlast hlen]
      rfl
    · have hpos : 0 < tail.length := List.length_pos_iff.mpr htail
      have hmore : s.rxCnt + 1 ≠ s.rxLen := by bv_omega
      have hnext : (s.rxCnt + 1).toNat = s.rxCnt.toNat + 1 := by bv_omega
      have hrest : (s.rxCnt + 1).toNat + tail.length = s.rxLen.toNat := by omega
      have hmid : MidPacket { s with rxPay := s.rxPay.write s.rxCnt.toNat b, rxCnt := s.rxCnt + 1, busy := false } now :=
        { h with idle := rfl }
      rw [List.cons_append, receive, h.event_payMore hphase hmore, ih htail hmid hphase hrest hlen, hnext]
      rfl

theorem MidPacket.event_crcLow {s : State} {now : Time} (h : MidPacket s now) (hphase : s.rxPhase = .crcl)
    {crc : BitVec 16} (hhigh : s.rxCrcHi = hi16 crc) :
    event (rxByte (lo16 crc) now) s =
      if crc = crc16 s.cfg.crc (payBytes s.rxLen.toNat s) then
        event (packetStep ⟨s.rxCtl, s.rxLen, payBytes s.rxLen.toNat s⟩ (stamp s now)) { s with rxPhase := .hunt }
      else { s with rxPhase := .hunt, busy := false } := by
  have hlow : event (rxByte (lo16 crc) now) s = event (rxCrcLow (lo16 crc) (stamp s now)) s := by
    rw [h.event_rxByte]
    exact event_congr (by simp [rxPhaseStep, hphase])
  have heq := rxCrcLow_eq (s := { s with busy := true }) hhigh (stamp s now)
  rw [hlow]
  split
  · next hcrc => exact event_congr (heq.trans (if_pos hcrc))
  · next hcrc => exact event_eq_of_update (heq.trans (if_neg hcrc))

/-- The end of layout PC: the CRC's high byte is kept until the low byte decides (R126, R127). -/
theorem receive_crc {s : State} {now : Time} (h : MidPacket s now) (hphase : s.rxPhase = .crch) {payload : List Byte}
    (hpay : payBytes s.rxLen.toNat s = payload) (crc : BitVec 16) :
    receive (crcBytes crc) now s =
      if crc = crc16 s.cfg.crc payload then
        event (packetStep ⟨s.rxCtl, s.rxLen, payload⟩ (stamp s now))
          { s with rxCrcHi := hi16 crc, rxPhase := .hunt, busy := false }
      else { s with rxCrcHi := hi16 crc, rxPhase := .hunt, busy := false } := by
  have hhigh : event (rxByte (hi16 crc) now) s = { s with rxCrcHi := hi16 crc, rxPhase := .crcl, busy := false } := by
    rw [h.event_rxByte]
    simp [event, rxPhaseStep, hphase, rxCrcHigh]
  rw [crcBytes, receive, hhigh, ← hpay]
  exact MidPacket.event_crcLow (s := { s with rxCrcHi := hi16 crc, rxPhase := .crcl, busy := false })
    { h with idle := rfl } rfl rfl

/-! ### Whole packets (R87) -/

/-- Writing HUNT into a framer that hunts. -/
theorem withHunt_eq {s : State} (h : s.rxPhase = .hunt) : { s with rxPhase := .hunt } = s := by
  rw [← h]

/-- The fourth byte of a header, in phase CKS. -/
theorem receive_headerBytes {s : State} (h : HuntReady s) (c l k : Byte) (rest : List Byte) (now : Time) :
    receive (headerBytes c l k ++ rest) now s =
      receive rest now (event (rxChecksum k (stamp s now)) (awaiting .cks c l now s)) :=
  (receive_header h c l (k :: rest) now).trans
    (congrArg (receive rest now) ((midPacket_awaiting h .cks c l now).event_rxByte k))

/-- Layout H: the header is handed over at its checksum. -/
theorem receive_headerOnly {s : State} (h : HuntReady s) {c l k : Byte} (hok : headerOk c l k = true)
    (hfollow : follow c l = (0, 0)) (now : Time) :
    .next (receive (headerBytes c l k) now s) = steps ⟨c, l, payloadOf c l []⟩ now s := by
  have hstep := rxChecksum_of_headerOnly (s := { awaiting .cks c l now s with busy := true }) hok hfollow (stamp s now)
  have hbytes := receive_headerBytes h c l k [] now
  rw [List.append_nil, receive] at hbytes
  rw [hbytes, steps]
  exact congrArg Host.Outcome.next (event_congr (hstep.trans
    (congrArg (packetStep _ _) (withHunt_eq (s := { afterHeader c l now s with busy := true }) h.2.1))))

/-- Layouts PC and P1 up to their first payload byte. -/
theorem receive_payloadHeader {s : State} (h : HuntReady s) {c l k : Byte} (hok : headerOk c l k = true)
    (hfollow : follow c l ≠ (0, 0)) (rest : List Byte) (now : Time) :
    receive (headerBytes c l k ++ rest) now s = receive rest now (awaiting .pay c l now { s with rxCnt := 0 }) :=
  (receive_headerBytes h c l k rest now).trans (congrArg (receive rest now) (event_eq_of_update
    (rxChecksum_of_payload (s := { awaiting .cks c l now s with busy := true }) hok hfollow _)))

/-- Layout P1: the one payload byte is handed over. -/
theorem receive_single {s : State} (h : HuntReady s) (hwf : s.rxPay.wf rxPaySize = true) {c l k : Byte}
    (hok : headerOk c l k = true) (hfollow : follow c l = (1, 0)) (b : Byte) (now : Time) :
    .next (receive (headerBytes c l k ++ [b]) now s) =
      steps ⟨c, l, [b]⟩ now { s with rxPay := s.rxPay.write 0 b, rxCnt := 1 } := by
  have hbyte := MidPacket.event_rxByte (midPacket_awaiting (s := { s with rxCnt := 0 }) h .pay c l now) b
  have hstep := rxPayload_of_single (s := { awaiting .pay c l now { s with rxCnt := 0 } with busy := true }) rfl
    (of_follow_eq_one hfollow) hwf b (stamp s now)
  have hhunt := withHunt_eq (s := { afterHeader c l now { s with rxPay := s.rxPay.write 0 b, rxCnt := 1 } with
    busy := true }) h.2.1
  rw [receive_payloadHeader h hok (by simp [hfollow]), receive, receive, hbyte, steps]
  exact congrArg Host.Outcome.next (event_congr (hstep.trans (congrArg (packetStep _ _) hhunt)))

/-- Layout PC up to its CRC. -/
theorem receive_untilCrc {s : State} (h : HuntReady s) {c l k : Byte} (hok : headerOk c l k = true)
    {payload : List Byte} (hfollow : follow c l = (payload.length, 2)) (rest : List Byte) (now : Time) :
    receive (headerBytes c l k ++ (payload ++ rest)) now s =
      receive rest now (awaiting .crch c l now { s with rxPay := s.rxPay.writeBytes 0 payload, rxCnt := l }) := by
  obtain ⟨-, -, hlen, h2⟩ := of_follow_eq_crc hfollow
  have hne : payload ≠ [] := List.length_pos_iff.mp (by omega)
  have hcnt : (0#8).toNat + payload.length = l.toNat := (Nat.zero_add _).trans hlen
  rw [receive_payloadHeader h hok (by simp [hfollow])]
  exact receive_payload hne (midPacket_awaiting (s := { s with rxCnt := 0 }) h .pay c l now) rfl hcnt (hlen ▸ h2) rest

/-- Layout PC: the payload is handed over if its CRC matches. -/
theorem receive_withCrc {s : State} (h : HuntReady s) (hwf : s.rxPay.wf rxPaySize = true) {c l k : Byte}
    (hok : headerOk c l k = true) {payload : List Byte} (hfollow : follow c l = (payload.length, 2)) (crc : BitVec 16)
    (now : Time) {t : State}
    (ht : t = { s with rxPay := s.rxPay.writeBytes 0 payload, rxCnt := l, rxCrcHi := hi16 crc }) :
    .next (receive (headerBytes c l k ++ payload ++ crcBytes crc) now s) =
      if crc = crc16 s.cfg.crc payload then steps ⟨c, l, payload⟩ now t else discards c l now t := by
  obtain ⟨-, -, hlen, -⟩ := of_follow_eq_crc hfollow
  have hpay : (s.rxPay.writeBytes 0 payload).readBytes 0 l.toNat = payload := by
    have hfits : 0 + payload.length ≤ rxPaySize := by
      have := l.isLt
      unfold rxPaySize
      omega
    rw [← hlen]
    exact Memory.readBytes_writeBytes hwf hfits
  have hcrc := receive_crc (midPacket_awaiting (s := { s with rxPay := s.rxPay.writeBytes 0 payload, rxCnt := l }) h
    .crch c l now) rfl hpay crc
  have hhunt (busy : Bool) := withHunt_eq (s := { afterHeader c l now t with busy := busy }) (by rw [ht]; exact h.2.1)
  subst ht
  rw [List.append_assoc, receive_untilCrc h hok hfollow]
  by_cases hmatch : crc = crc16 s.cfg.crc payload
  · rw [hcrc.trans (if_pos hmatch), if_pos hmatch]
    exact congrArg Host.Outcome.next (event_congr (congrArg (packetStep _ _) (hhunt true)))
  · rw [hcrc.trans (if_neg hmatch), if_neg hmatch]
    exact congrArg Host.Outcome.next (hhunt false)

theorem receive_noData {s : State} (h : HuntReady s) {c l k : Byte} (hok : headerOk c l k = true)
    (hso : ctlSo c = false) (hdata : hasData c l = false) (now : Time) :
    .next (receive (headerBytes c l k) now s) = steps ⟨c, l, []⟩ now s := by
  have hstep := receive_headerOnly h hok ((follow_eq_zero_iff c l).mpr (.inr hdata)) now
  rwa [payloadOf_of_noData hso hdata] at hstep

theorem receive_so {s : State} (h : HuntReady s) {c l k : Byte} (hok : headerOk c l k = true) (hso : ctlSo c = true)
    (now : Time) : .next (receive (headerBytes c l k) now s) = steps ⟨c, l, [l]⟩ now s := by
  have hstep := receive_headerOnly h hok ((follow_eq_zero_iff c l).mpr (.inl hso)) now
  rwa [payloadOf_of_so hso] at hstep

/-! ### Packets of the rows (R87, R88) -/

theorem hasData_mkCtl_zero {flags : Byte} (hso : ctlSo flags = false) (sn an : Bool) :
    hasData (mkCtl flags sn an) 0 = false := by
  simp [hasData, ctlSo_mkCtl, hso]

/-- A SYN+ACK announces no payload by its `data_length` of 255 (R93, R113). -/
theorem hasData_synack (an : Bool) : hasData (mkCtl 0xC0 false an) 0xFF = false := by revert an; decide

theorem receive_bare {s : State} (h : HuntReady s) {flags k : Byte} (hso : ctlSo flags = false) (sn an : Bool)
    (hok : headerOk (mkCtl flags sn an) 0 k = true) (now : Time) :
    .next (receive (headerBytes (mkCtl flags sn an) 0 k) now s) = steps ⟨mkCtl flags sn an, 0, []⟩ now s :=
  receive_noData h hok ((ctlSo_mkCtl _ _ _).trans hso) (hasData_mkCtl_zero hso sn an) now

/-- Settles O16: six forms carry no data, the seventh its byte in the header. -/
theorem headerFormsRunThePacketStep : Obligations.HeaderFormsRunThePacketStep := by
  intro s now k h
  refine ⟨fun hok => ?syn, fun an hok => ?synack, fun sn an hok => ?ack, fun sn hok => ?rst, fun sn an hok => ?rstack,
    fun sn an hok => ?finack, fun sn an eor b hok => ?data1⟩
  case syn => exact receive_noData h hok rfl rfl now
  case synack => exact receive_noData h hok (ctlSo_mkCtl _ _ _) (hasData_synack an) now
  case rst => exact receive_bare h rfl sn false hok now
  case ack | rstack | finack => exact receive_bare h rfl sn an hok now
  case data1 => exact receive_so h hok (ctlSo_dataCtl _ _ _ _) now

theorem follow_data (sn an eor : Bool) {payload : List Byte} (h : DataFits payload) :
    follow (dataCtl 0x40 sn an eor) (lenByte payload) = (payload.length, 2) := by
  obtain ⟨h2, h255⟩ := h
  have hlen := toNat_lenByte h255
  have hnonempty : FragmentSize payload := ⟨by omega, h255⟩
  have hdata := hasData_dataCtl sn an eor (lenByte_ne_zero hnonempty)
  rw [follow_of_two_le (ctlSo_dataCtl _ _ _ _) hdata (hlen.symm ▸ h2), hlen]

theorem follow_datap1 (ackf sn an eor : Bool) : follow (dataCtl (bitAt ackf 6) sn an eor) 1 = (1, 0) := by
  revert ackf sn an eor; decide

/-- Settles O17: the DATA row is of layout PC, the DATAP1 row of layout P1. -/
theorem payloadPacketsRunThePacketStep : Obligations.PayloadPacketsRunThePacketStep := by
  intro s now k h hwf
  constructor
  · intro sn an eor payload crc hfits hok t
    exact receive_withCrc h hwf hok (follow_data sn an eor hfits) crc now rfl
  · intro ackf sn an eor b hok
    exact receive_single h hwf hok (follow_datap1 ackf sn an eor) b now

/-! ### Packets of a row or of none (R89) -/

theorem decodePacket_eq_ok {now : Time} {bytes : List Byte} {r : Instr × List Byte}
    (h : decodePacket now bytes = .ok r) :
    ∃ c l k rest f, bytes = headerBytes c l k ++ rest ∧ formOf c l = some f := by
  unfold decodePacket at h
  split at h
  · next y c l k rest =>
    split at h
    · cases h
    next hsynch =>
    obtain rfl : y = synch := by simpa using hsynch
    cases hf : formOf c l with
    | none => simp [hf] at h
    | some f => exact ⟨c, l, k, rest, f, rfl, hf⟩
  · cases h

theorem crcBytes_join16 (hi lo : Byte) : crcBytes (join16 hi lo) = [hi, lo] := by
  have hhi : hi16 (join16 hi lo) = hi := BitVec.extractLsb'_append_eq_left
  have hlo : lo16 (join16 hi lo) = lo := BitVec.extractLsb'_append_eq_right
  rw [crcBytes, hhi, hlo]

/-- A packet of layout PC that decodes is its header, its payload and the CRC that the decoder reads. -/
theorem decodePacket_data_inv {now : Time} {c l k : Byte} {rest : List Byte} {i : Instr} (hf : formOf c l = some .data)
    (h : decodePacket now (headerBytes c l k ++ rest) = .ok (i, [])) :
    ∃ payload crc, payload.length = l.toNat ∧ rest = payload ++ (crcBytes crc ++ []) := by
  simp only [decodePacket, headerBytes, List.cons_append, List.nil_append, hf] at h
  split at h
  · cases h
  split at h
  next hi lo after hdrop =>
    cases h
    have hlength : rest.length - l.toNat = 2 := by rw [← List.length_drop, hdrop]; rfl
    refine ⟨rest.take l.toNat, join16 hi lo, List.length_take_of_le (by omega), ?_⟩
    rw [crcBytes_join16, List.append_nil, ← hdrop, List.take_append_drop]
  · cases h

/-- A packet that decodes is the encoding of the instruction it decodes to. -/
theorem encode_of_decodePacket {now : Time} {bytes : List Byte} {i : Instr} (h : decodePacket now bytes = .ok (i, [])) :
    encode i = .packet now bytes := by
  obtain ⟨c, l, k, rest, f, rfl, hf⟩ := decodePacket_eq_ok h
  have hrow := rowHolds_of_formOf hf
  cases f with
  | syn =>
    obtain ⟨rfl, rfl⟩ := hrow
    cases (decodePacket_syn now k rest hf).symm.trans h
    rfl
  | synack =>
    obtain ⟨hc, rfl⟩ := hrow
    cases (decodePacket_synack now k rest hf).symm.trans h
    rw [encode, encodeBytes, mkCtl_of_an_masked hc, List.append_nil]
  | ack =>
    obtain ⟨hc, rfl⟩ := hrow
    cases (decodePacket_ack now k rest hf).symm.trans h
    rw [encode, encodeBytes, mkCtl_of_masked hc, List.append_nil]
  | rst =>
    obtain ⟨hc, rfl⟩ := hrow
    cases (decodePacket_rst now k rest hf).symm.trans h
    rw [encode, encodeBytes, mkCtl_of_sn_masked hc, List.append_nil]
  | rstack =>
    obtain ⟨hc, rfl⟩ := hrow
    cases (decodePacket_rstack now k rest hf).symm.trans h
    rw [encode, encodeBytes, mkCtl_of_masked hc, List.append_nil]
  | finack =>
    obtain ⟨hc, rfl⟩ := hrow
    cases (decodePacket_finack now k rest hf).symm.trans h
    rw [encode, encodeBytes, mkCtl_of_masked hc, List.append_nil]
  | data =>
    obtain ⟨payload, crc, hlen, rfl⟩ := decodePacket_data_inv hf h
    obtain ⟨hc, -⟩ := hrow
    cases (decodePacket_data now k [] hf hlen crc).symm.trans h
    have hself : lenByte payload = l := by rw [lenByte, hlen, BitVec.ofNat_toNat, BitVec.setWidth_eq]
    rw [encode, encodeBytes, dataCtl_of_masked hc, hself, List.append_nil, List.append_assoc]
  | data1 =>
    cases (decodePacket_data1 now k rest hf).symm.trans h
    rw [encode, encodeBytes, dataCtl_of_masked hrow, List.append_nil]
  | datap1 =>
    cases rest with
    | nil => simp [decodePacket, headerBytes, hf] at h
    | cons b rest =>
      obtain ⟨hc, rfl⟩ := hrow
      cases (decodePacket_datap1 now k rest hf b).symm.trans h
      rw [encode, encodeBytes, dataCtl_of_ack_masked hc]

/-- The arrival of a packet is the reception of its bytes, of a row or of none (R89, R100). -/
theorem step_of_packet {s : State} {now : Time} {bytes : List Byte} {more : List Arrival}
    (h : s.inbox = .packet now bytes :: more) : step s = .next (receive bytes now { s with inbox := more }) := by
  cases hd : decodeArrival (.packet now bytes) with
  | error e => exact step_of_undecoded h hd
  | ok i =>
    have hpacket : decodePacket now bytes = .ok (i, []) := by
      simp only [decodeArrival] at hd
      split at hd <;> simp_all
    rw [step_of_decoded h hd, exec_of_encode_packet (encode_of_decodePacket hpacket)]

/-- Settles O7: the arrival is the reception of a packet of layout H. -/
theorem everyHeaderOnlyPacketReachesThePacketStep : Obligations.EveryHeaderOnlyPacketReachesThePacketStep := by
  intro s now c l k more hinbox h hok hfollow
  rw [step_of_packet hinbox]
  exact receive_headerOnly (s := { s with inbox := more }) h hok hfollow now

/-- Settles O8: the arrival is the reception of a packet of layout PC or P1. -/
theorem everyPayloadPacketReachesThePacketStep : Obligations.EveryPayloadPacketReachesThePacketStep := by
  intro s now c l k more h hwf hok
  constructor
  · intro payload crc hinbox hfollow t
    rw [step_of_packet hinbox]
    exact receive_withCrc (s := { s with inbox := more }) h hwf hok hfollow crc now rfl
  · intro b hinbox hfollow
    rw [step_of_packet hinbox]
    exact receive_single (s := { s with inbox := more }) h hwf hok hfollow b now

/-! ### Built data packets (R92, R115) -/

theorem buildData_length {bytes : List Byte} (h : FragmentSize bytes) (sel : CrcSel) (sn an eor : Bool) :
    (buildData sel sn an eor bytes).length = if bytes.length = 1 then 4 else bytes.length + 6 := by
  obtain ⟨b, rfl⟩ | ⟨h2, -⟩ := h.cases
  · rfl
  · have hmany : bytes.length ≠ 1 := by omega
    rw [buildData_of_two_le h2, if_neg hmany]
    simp [crcBytes]
    omega

/-- `rest` is as long as a header announces, the header has data, and the receiver reads the payload `bytes`. -/
structure Frames (c l : Byte) (rest bytes : List Byte) : Prop where
  hasData : hasData c l = true
  announced : rest.length = (follow c l).1 + (follow c l).2
  payload : payloadOf c l (rest.take (follow c l).1) = bytes

/-- The SO form frames the byte in its header. -/
theorem frames_so {c : Byte} (hso : ctlSo c = true) (b : Byte) : Frames c b [] [b] where
  hasData := hasData_of_so hso b
  announced := by
    rw [(follow_eq_zero_iff c b).mpr (.inl hso)]
    rfl
  payload := payloadOf_of_so hso b _

/-- Layout PC frames its payload, before the CRC. -/
theorem frames_crc {c l : Byte} {bytes : List Byte} (hfollow : follow c l = (bytes.length, 2)) (crc : BitVec 16) :
    Frames c l (bytes ++ crcBytes crc) bytes := by
  obtain ⟨hso, hdata, -, -⟩ := of_follow_eq_crc hfollow
  refine ⟨hdata, ?_, ?_⟩
  · rw [hfollow, List.length_append]
    rfl
  · rw [hfollow, List.take_left, payloadOf_of_data hso hdata]

/-- Settles O12: one byte takes the SO form, more take layout PC. -/
theorem builtDataPacketsFrameThemselves : Obligations.BuiltDataPacketsFrameThemselves := by
  intro sel sn an eor bytes h p
  refine ⟨buildData_length h sel sn an eor, buildData_length_le h sel sn an eor, wirePacket_buildData h sel sn an eor,
    retransmittable_buildData h sel sn an eor, ?_⟩
  obtain ⟨b, rfl⟩ | hfits := h.cases
  · have hp : p = makeHeader (dataCtl 0x41 sn an eor) b := by rw [dataCtl_so]; rfl
    have hframes := frames_so (c := dataCtl 0x41 sn an eor) (ctlSo_dataCtl _ _ _ _) b
    exact ⟨_, b, _, [], hp, headerOk_headerChecksum _ b, hframes.hasData, hframes.announced, hframes.payload,
      ctlSn_dataCtl rfl sn an eor, ctlAn_dataCtl rfl sn an eor, ctlEor_dataCtl rfl sn an eor, ctlAck_dataCtl _ _ _ _⟩
  · have hp : p = makeHeader (dataCtl 0x40 sn an eor) (lenByte bytes) ++ (bytes ++ crcBytes (crc16 sel bytes)) :=
      (buildData_of_two_le hfits.1 sel sn an eor).trans (List.append_assoc _ _ _)
    have hframes := frames_crc (follow_data sn an eor hfits) (crc16 sel bytes)
    exact ⟨_, _, _, _, hp, headerOk_headerChecksum _ _, hframes.hasData, hframes.announced, hframes.payload,
      ctlSn_dataCtl rfl sn an eor, ctlAn_dataCtl rfl sn an eor, ctlEor_dataCtl rfl sn an eor, ctlAck_dataCtl _ _ _ _⟩

end Sys2Proof.Machine
end

section
/-! PROOFS of the family 30_encoding.md, emission: every packet handed to the transport is of a transmitted form.
`Transmits` says so of everything emitted since a given point, together with what the operations need to keep it. -/

namespace Sys2Proof.Machine

open Sys2Proof.Spec

theorem txStream_append (a b : List Output) : txStream (a ++ b) = txStream a ++ txStream b := by
  induction a with
  | nil => rfl
  | cons x rest ih => cases x <;> simp [txStream, ih]

/-- A property that every procedure keeps is kept by every list of procedures (R140). -/
theorem runProcs_induction {P : State → Prop} {p : Pkt} {now : Time}
    (hproc : ∀ f {s}, P s → P (runProc f p now s).state) (l : List Proc) {s : State} (h : P s) :
    P (runProcs l p now s) := by
  induction l generalizing s with
  | nil => exact h
  | cons f rest ih =>
    have hf := hproc f h
    rw [runProcs_cons]
    cases hv : runProc f p now s with
    | stop t =>
      rw [hv] at hf
      exact hf
    | cont t =>
      rw [hv] at hf
      exact ih hf

/-- Beyond the stream `sent`, the block has handed only packets of a transmitted form to the transport; and what still
waits to be sent are fragments, so that this goes on. -/
structure Transmits (sel : CrcSel) (sent : List (List Byte)) (s : State) : Prop where
  crc : s.cfg.crc = sel
  txSizes : ∀ e ∈ s.txq, FragmentSize e.bytes
  wire : ∃ l, txStream s.outs = sent ++ l ∧ ∀ p ∈ l, WirePacket sel p

theorem Inv.transmits {s : State} (h : Inv s) : Transmits s.cfg.crc (txStream s.outs) s :=
  ⟨rfl, h.txSizes, [], (List.append_nil _).symm, by simp⟩

namespace Transmits

variable {sel : CrcSel} {sent : List (List Byte)} {s t : State}

/-! ### The shared operations -/

/-- Writing other registers, and outputs that are no packets, make no difference. -/
theorem update (h : Transmits sel sent s) (hcfg : t.cfg = s.cfg := by rfl) (htxq : t.txq = s.txq := by rfl)
    (houts : txStream t.outs = txStream s.outs := by rfl) : Transmits sel sent t :=
  ⟨hcfg ▸ h.crc, htxq ▸ h.txSizes, houts ▸ h.wire⟩

theorem emit (h : Transmits sel sent s) {p : List Byte} (hp : WirePacket sel p) : Transmits sel sent (emit p s) := by
  obtain ⟨l, hl, hwire⟩ := h.wire
  refine ⟨h.crc, h.txSizes, l ++ [p], ?_, ?_⟩
  · rw [emit_outs, txStream_append, hl, List.append_assoc]
    rfl
  · simp only [List.mem_append, List.mem_singleton]
    rintro q (hq | rfl)
    · exact hwire q hq
    · exact hp

theorem complete (h : Transmits sel sent s) (tag : Tag) (code : Code) : Transmits sel sent (complete tag code s) :=
  h.update rfl rfl (by rw [complete_outs, txStream_append]; exact List.append_nil _)

theorem respond (h : Transmits sel sent s) (code : Code) (e : Option RxEntry) : Transmits sel sent (respond code e s) :=
  h.update rfl rfl (by rw [respond_outs, txStream_append]; exact List.append_nil _)

theorem ite {c : Prop} [Decidable c] (hs : Transmits sel sent s) (ht : Transmits sel sent t) :
    Transmits sel sent (if c then s else t) := by
  split
  · exact hs
  · exact ht

theorem settle (h : Transmits sel sent s) (code : Code) : Transmits sel sent (settle code s) :=
  ite (h.complete s.curTag code).update h

theorem fail (h : Transmits sel sent s) (code : Code) : Transmits sel sent (fail code s) :=
  settle (s := { s with status := code, conn := .closed, rtxValid := false }) h.update code

theorem ackAccepted (h : Transmits sel sent s) (now : Time) : Transmits sel sent (ackAccepted now s) :=
  settle (ite h.update h) .ok

theorem sendSeg (h : Transmits sel sent s) {p : List Byte} (hp : WirePacket sel p) (now : Time) (own : Bool) :
    Transmits sel sent (sendSeg p now own s) :=
  ite (update (ite (h.emit hp) ((h.emit hp).settle .connectionReset))) (h.emit hp)

theorem sendHeader (h : Transmits sel sent s) {c l : Byte} (hform : HeaderForm c l) (now : Time) :
    Transmits sel sent (Machine.sendSeg (makeHeader c l) now false s) :=
  h.sendSeg (hform.wirePacket sel) now false

/-- A queued fragment leaves as the packet that `build_data` builds from it (R200). -/
theorem dispatch (h : Transmits sel sent s) (now : Time) : Transmits sel sent (dispatch now s) := by
  cases hq : s.txq with
  | nil => simpa only [Machine.dispatch, hq] using h
  | cons e rest =>
    have hsizes : ∀ x ∈ e :: rest, FragmentSize x.bytes := hq ▸ h.txSizes
    have hwire := wirePacket_buildData (hsizes e (by simp)) s.cfg.crc (!s.snSent) (!s.snReceived) e.eor
    have hrest : Transmits sel sent { s with txq := rest, curValid := true, curTag := e.tag, snSent := !s.snSent } :=
      ⟨h.crc, fun x hx => hsizes x (by simp [hx]), h.wire⟩
    rw [dispatch_cons hq]
    exact hrest.sendSeg (h.crc ▸ hwire) now true

/-! ### The packet procedures (R143 to R162) -/

theorem ackReply (h : Transmits sel sent s) (p : Pkt) (now : Time) : Transmits sel sent (ackReply p now s) :=
  h.sendHeader (headerForm_ack _ _) now

theorem rstReply (h : Transmits sel sent s) (p : Pkt) (now : Time) : Transmits sel sent (rstReply p now s) :=
  h.sendHeader (headerForm_rst _) now

theorem answerSyn (h : Transmits sel sent s) (p : Pkt) (now : Time) : Transmits sel sent (answerSyn p now s) :=
  (sendHeader (s := { s with snReceived := pktSn p }) h.update (headerForm_synack _) now).update

theorem dispatchOrAck (h : Transmits sel sent s) (p : Pkt) (now : Time) :
    Transmits sel sent (if dispatchReady s then Machine.dispatch now s else Machine.ackReply p now s) :=
  ite (h.dispatch now) (h.ackReply p now)

theorem completeOpen (h : Transmits sel sent s) (p : Pkt) (now : Time) : Transmits sel sent (completeOpen p now s) :=
  dispatchOrAck (ackAccepted (s := { s with snReceived := pktSn p }) h.update now).update p now

theorem deliver (h : Transmits sel sent s) (p : Pkt) (now : Time) : Transmits sel sent (deliver p now s) :=
  dispatchOrAck h.update p now

theorem stop (h : Transmits sel sent s) : Transmits sel sent (Verdict.stop s).state := h

theorem iteVerdict {c : Prop} [Decidable c] {v w : Verdict} (hv : Transmits sel sent v.state)
    (hw : Transmits sel sent w.state) : Transmits sel sent (if c then v else w).state :=
  KeptByPacket.iteVerdict hv hw

/-- Each of the nineteen procedures, branch by branch in the order of its definition. -/
theorem runProc (h : Transmits sel sent s) (f : Proc) (p : Pkt) (now : Time) :
    Transmits sel sent (runProc f p now s).state := by
  have hreset (code : Code) : Transmits sel sent (Machine.fail code (Machine.rstReply p now s)) :=
    (h.rstReply p now).fail code
  cases f with
  | a => exact iteVerdict h (iteVerdict (h.rstReply p now) (iteVerdict (h.answerSyn p now) h))
  | b =>
    exact iteVerdict (stop (ite h (h.rstReply p now)))
      (iteVerdict (h.fail _) (iteVerdict (stop (ite (h.completeOpen p now) (h.answerSyn p now))) h))
  | c1 => exact iteVerdict h (iteVerdict h (h.ackReply p now))
  | c2 => exact iteVerdict h (iteVerdict h (iteVerdict (hreset _) (h.ackReply p now)))
  | d1 => exact iteVerdict h (iteVerdict (stop h.update) (h.fail _))
  | d2 | d3 => exact iteVerdict h (h.fail _)
  | e => exact iteVerdict h (hreset _)
  | f1 =>
    exact iteVerdict h (iteVerdict (h.ackAccepted now) (iteVerdict (stop (h.rstReply p now).update) (hreset _)))
  | f2 | f3 => exact iteVerdict h (iteVerdict (h.ackAccepted now) h)
  | g =>
    exact iteVerdict h (iteVerdict (h.emit ((headerForm_rst _).wirePacket sel))
      (h.emit ((headerForm_rstack _ _).wirePacket sel)))
  | h1 => exact stop h.update
  | h2 =>
    exact iteVerdict h (stop
      (sendHeader (s := { s with snReceived := pktSn p }) h.update (headerForm_finack _ _) now).update)
  | h3 =>
    exact iteVerdict h (iteVerdict ((h.sendHeader (headerForm_rstack _ _) now).fail _)
      (iteVerdict (stop (h.ackReply p now).update) (stop (h.ackReply p now).update)))
  | h4 => exact iteVerdict (h.fail _) h
  | h5 => exact iteVerdict (stop h.update) h
  | h6 => exact iteVerdict (stop (h.ackReply p now).update) h
  | i1 => exact iteVerdict h (iteVerdict h (h.deliver p now))

theorem packetStep (h : Transmits sel sent s) (p : Pkt) (now : Time) : Transmits sel sent (packetStep p now s) :=
  runProcs_induction (fun f _ h => h.runProc f p now) _ h

/-! ### Received bytes, timers and dispatch -/

theorem event {f : State → State} (hf : ∀ {x}, Transmits sel sent x → Transmits sel sent (f x))
    (h : Transmits sel sent s) : Transmits sel sent (event f s) :=
  (hf (x := { s with busy := true }) h.update).update

theorem framerMove (h : Transmits sel sent s) (hm : FramerMove s t) : Transmits sel sent t := by
  obtain ⟨_, _, _, _, _, _, _⟩ := hm
  exact h.update

theorem rxByte (h : Transmits sel sent s) (byte : Byte) (now : Time) : Transmits sel sent (rxByte byte now s) :=
  ite (rxByteAt_induction h (fun hm h => h.framerMove hm) (fun h => h.update) fun _ _ h => h.packetStep _ _) h

theorem receive (h : Transmits sel sent s) (bytes : List Byte) (now : Time) : Transmits sel sent (receive bytes now s) :=
  receive_induction (fun byte h => h.event fun h => h.rxByte byte now) bytes h

/-- A retransmission is the slot's packet verbatim (R198), a wire packet by the invariant of the slot. -/
theorem retransmitCheck (h : Transmits sel sent s) (hslot : s.rtxValid = true → WirePacket sel (slotPacket s))
    (now : Time) : Transmits sel sent (retransmitCheck now s) := by
  unfold Machine.retransmitCheck
  split
  · next hdue =>
    have hresent : Transmits sel sent (resend now s) := (h.emit (hslot hdue.2.1)).update
    exact ite (hresent.fail .timeout) hresent
  · exact h

/-- The first two steps of TMR leave the slot as it is or invalidate it (R196). -/
theorem slot_timeWaitCheck (hslot : s.rtxValid = true → WirePacket sel (slotPacket s)) (now : Time)
    (hvalid : (timeWaitCheck now (byteTimeout now s)).rtxValid = true) :
    WirePacket sel (slotPacket (timeWaitCheck now (byteTimeout now s))) := by
  have htimeout : (byteTimeout now s).rtxValid = s.rtxValid ∧ slotPacket (byteTimeout now s) = slotPacket s := by
    unfold byteTimeout
    split <;> exact ⟨rfl, rfl⟩
  unfold timeWaitCheck at hvalid ⊢
  split at hvalid
  · cases (fail_rtxValid _ _).symm.trans hvalid
  · next hwait =>
    rw [if_neg hwait, htimeout.2]
    exact hslot (htimeout.1 ▸ hvalid)

theorem timerCheck (h : Transmits sel sent s) (hslot : s.rtxValid = true → WirePacket sel (slotPacket s))
    (now : Time) : Transmits sel sent (timerCheck now s) := by
  have htimeout := h.framerMove (framerMove_byteTimeout (sampled s now) s)
  have hwait : Transmits sel sent (timeWaitCheck (sampled s now) (byteTimeout (sampled s now) s)) :=
    ite (htimeout.fail .connectionReset) htimeout
  exact ite (hwait.retransmitCheck (slot_timeWaitCheck hslot (sampled s now)) _) h

theorem dispatchCheck (h : Transmits sel sent s) (now : Time) : Transmits sel sent (dispatchCheck now s) :=
  ite (h.dispatch _) h

/-! ### The host commands (R216 to R222) -/

theorem resetTcb (h : Transmits sel sent s) : Transmits sel sent (resetTcb s) :=
  ⟨h.crc, by simp [Machine.resetTcb, State.resetWith], h.wire⟩

theorem cmdOpenActive (h : Transmits sel sent s) (now : Time) : Transmits sel sent (cmdOpenActive now s) :=
  have hfresh : Transmits sel sent { Machine.resetTcb s with opened := true, active := true, busy := s.busy } :=
    h.resetTcb.update
  ite (h.respond .refused none) (respond (hfresh.sendHeader headerForm_syn (sampled s now)).update .ok none)

theorem cmdOpenPassive (h : Transmits sel sent s) : Transmits sel sent (cmdOpenPassive s) :=
  ite (h.respond .refused none) (respond h.resetTcb.update .ok none)

/-- TXPUSH queues nothing but fragments (R218). -/
theorem cmdPush (h : Transmits sel sent s) (bytes : List Byte) (eor : Bool) (tag : Tag) :
    Transmits sel sent (cmdPush bytes eor tag s) := by
  unfold Machine.cmdPush
  split
  · exact h.respond .networkDown none
  split
  · exact h.respond .refused none
  next hsize =>
  have hfits : FragmentSize bytes := by
    unfold FragmentSize
    omega
  have hpushed : Transmits sel sent { s with txq := s.txq ++ [⟨bytes, eor, tagBits s tag⟩] } := by
    refine ⟨h.crc, ?_, h.wire⟩
    simp only [List.mem_append, List.mem_singleton]
    rintro e (he | rfl)
    · exact h.txSizes e he
    · exact hfits
  exact ite (h.respond .wouldBlock none) (hpushed.respond .ok none)

theorem cmdPop (h : Transmits sel sent s) : Transmits sel sent (cmdPop s) := by
  unfold Machine.cmdPop
  split
  · exact h.respond .wouldBlock none
  · exact respond h.update .ok _

theorem cmdClose (h : Transmits sel sent s) (now : Time) : Transmits sel sent (cmdClose now s) :=
  have hflip : Transmits sel sent { s with snSent := !s.snSent } := h.update
  respond (ite (hflip.sendHeader (headerForm_finack _ _) _).update h) .ok none

theorem giveUpQueue (h : Transmits sel sent s) (q : List TxEntry) : Transmits sel sent (giveUpQueue q s) := by
  induction q generalizing s with
  | nil => exact h
  | cons e rest ih => exact ih (h.complete e.tag .connectionReset)

theorem cmdRelease (h : Transmits sel sent s) : Transmits sel sent (cmdRelease s) :=
  respond (ite ((h.settle .connectionReset).giveUpQueue s.txq).resetTcb.update h) .ok none

theorem cmdWriteConfig (h : Transmits sel sent s) (value : Byte) : Transmits sel sent (cmdWriteConfig value s) :=
  respond (s := { s with maxRetries := value }) h.update .ok none

/-- Every row of the table (R96, R100). -/
theorem of_rowEffect {i : Instr} (hs : Inv s) (ht : RowEffect s i t) : Transmits s.cfg.crc (txStream s.outs) t := by
  have h := hs.transmits
  cases ht with
  | received _ bytes now => exact h.receive bytes now
  | opena now => exact h.event fun h => h.cmdOpenActive now
  | openp now => exact h.event cmdOpenPassive
  | txpush now eor tag bytes => exact h.event fun h => h.cmdPush bytes eor tag
  | rxpop now => exact h.event cmdPop
  | close now => exact h.event fun h => h.cmdClose now
  | release now => exact h.event cmdRelease
  | wrcfg now value => exact h.event fun h => h.cmdWriteConfig value
  | rxb now byte => exact h.event fun h => h.rxByte byte now
  | tmr now => exact (timerCheck (s := { s with busy := true }) h.update hs.slotIsPacket now).update
  | dsp now => exact h.event fun h => h.dispatchCheck now

end Transmits

/-- Settles O48: what an instruction does is a reception or an event, and each transmits only wire packets. -/
theorem everyEmittedPacketIsOfTheEightForms : Obligations.EveryEmittedPacketIsOfTheEightForms :=
  fun _ _ _ hs hn => (Transmits.of_rowEffect hs (rowEffect_of_exec hn)).wire

end Sys2Proof.Machine
end

section
/-! PROOFS of the family 40_codec_framer.md: what the header checksum detects, when a packet has data, what one byte
does in each phase of the framer, and what is ignored: bytes, timer and dispatcher while no connection record exists,
and every header that fails its checksum. -/

namespace Sys2Proof.Machine

open Sys2Proof.Spec

/-! ### The header checksum detects a change of one byte (R112) -/

/-- With the other two bytes fixed, one control byte validates. -/
theorem ctl_eq_of_headerOk {c c' l k : Byte} (h : headerOk c l k = true) (h' : headerOk c' l k = true) : c' = c := by
  rw [headerOk, beq_iff_eq] at h h'
  bv_omega

/-- With the other two bytes fixed, one length byte validates. -/
theorem len_eq_of_headerOk {c l l' k : Byte} (h : headerOk c l k = true) (h' : headerOk c l' k = true) : l' = l := by
  rw [headerOk, beq_iff_eq] at h h'
  bv_omega

/-- With the other two bytes fixed, one checksum byte validates. -/
theorem checksum_eq_of_headerOk {c l k k' : Byte} (h : headerOk c l k = true) (h' : headerOk c l k' = true) : k' = k :=
  ((headerOk_iff_eq c l k').mp h').trans ((headerOk_iff_eq c l k).mp h).symm

/-- Flipping bit `i` changes bit `i`. -/
theorem xor_bit_ne (b : Byte) {i : Nat} (hi : i < 8) : b ^^^ (1#8 <<< i) ≠ b := by
  intro h
  have hbit := congrArg (·.getLsbD i) h
  simp [hi] at hbit

/-- Settles O10: a flip changes its byte, and only the unchanged byte validates beside the other two. -/
theorem singleBitFlipsAreDetected : Obligations.SingleBitFlipsAreDetected := by
  intro c l k i hi hok
  simp only [← Bool.not_eq_true]
  exact ⟨fun h => xor_bit_ne c hi (ctl_eq_of_headerOk hok h), fun h => xor_bit_ne l hi (len_eq_of_headerOk hok h),
    fun h => xor_bit_ne k hi (checksum_eq_of_headerOk hok h)⟩

/-! ### The logical payload (R113, R118) -/

/-- Settles O11, by what the header announces: the SO byte, no data, or the bytes of `rx_pay`. -/
theorem hasDataIffPayload : Obligations.HasDataIffPayload := by
  intro c l pay hlen
  cases hso : ctlSo c with
  | true => simp [hasData_of_so hso, payloadOf_of_so hso]
  | false =>
    cases hdata : hasData c l with
    | false => simp [payloadOf_of_noData hso hdata]
    | true =>
      have hpos : 0 < pay.length := hlen ▸ BitVec.toNat_pos_of_ne_zero (ne_zero_of_hasData hso hdata)
      have hfits : pay.length ≤ 255 := hlen ▸ Nat.le_of_lt_succ l.isLt
      simpa [payloadOf_of_data hso hdata, hfits] using List.length_pos_iff.mp hpos

/-! ### One byte, phase by phase (R120 to R129) -/

theorem exec_rxb (now : Time) (byte : Byte) (s : State) :
    exec (.rxb now byte) s = .next (event (rxByte byte now) s) := rfl

/-- Writing `busy` = 0 into a state between events. -/
theorem withIdle_eq {s : State} (h : s.busy = false) : { s with busy := false } = s := by
  rw [← h]

/-- Phase HUNT waits for the marker (R121). -/
theorem rxHunt_eq {s : State} (h : s.rxPhase = .hunt) (byte : Byte) :
    rxHunt byte s = { s with rxPhase := if byte = 0x01 then .ctl else .hunt } := by
  unfold rxHunt synch
  split
  · rfl
  · exact (withHunt_eq h).symm

theorem rxChecksum_of_wrong {s : State} {k : Byte} (h : headerOk s.rxCtl s.rxLen k = false) (now : Time) :
    rxChecksum k now s = { s with rxPhase := .hunt } := by
  simp [rxChecksum, h]

theorem byteTimeout_of_late {s : State} {now : Time} (hphase : s.rxPhase ≠ .hunt)
    (hlate : s.cfg.tByte.toNat ≤ since s s.rxTs now) : byteTimeout now s = { s with rxPhase := .hunt } :=
  if_pos ⟨hphase, hlate⟩

/-- A byte that comes `T_BYTE` or more after the last one is looked at as in HUNT (R129). -/
theorem event_rxByte_of_late {s : State} {now : Time} (hopened : s.opened = true) (hphase : s.rxPhase ≠ .hunt)
    (hlate : s.cfg.tByte.toNat ≤ since s s.rxTs (stamp s now)) (byte : Byte) :
    event (rxByte byte now) s =
      { s with rxTs := stamp s now, rxPhase := if byte = 0x01 then .ctl else .hunt, busy := false } := by
  refine event_eq_of_update (t := { s with
    rxTs := stamp s now, rxPhase := if byte = 0x01 then .ctl else .hunt, busy := true }) ?_
  have htimeout := byteTimeout_of_late (s := { s with busy := true }) hphase hlate
  have hbyte : rxByte byte now { s with busy := true } = rxPhaseStep byte (stamp s now)
      { byteTimeout (stamp s now) { s with busy := true } with rxTs := stamp s now } := if_pos hopened
  rw [hbyte, htimeout]
  exact rxHunt_eq rfl byte

/-- `s` with a byte at `now` under way: its time is stamped, and `busy` is 1 (R35, R120). -/
def byteStarted (now : Time) (s : State) : State := { s with rxTs := stamp s now, busy := true }

section
variable {s : State} {now : Time} {byte : Byte}

/-- A byte in time whose phase only updates registers. -/
theorem exec_rxb_of_update {t : State} (h : InTime s now) (ht : t.busy = false)
    (hstep : rxPhaseStep byte (stamp s now) (byteStarted now s) = { t with busy := true }) :
    exec (.rxb now byte) s = .next t := by
  have hevent : event (rxPhaseStep byte (stamp s now)) { s with rxTs := stamp s now } = { t with busy := false } :=
    event_eq_of_update (t := { t with busy := true }) hstep
  rw [exec_rxb, event_rxByte_of_inTime h, hevent, withIdle_eq ht]

/-- A byte in time that completes a packet. -/
theorem exec_rxb_of_packet {t : State} {p : Pkt} (h : InTime s now)
    (hstep : rxPhaseStep byte (stamp s now) (byteStarted now s) =
      packetStep p (stamp s now) { t with busy := true }) :
    exec (.rxb now byte) s = .next (event (packetStep p (stamp s now)) t) := by
  rw [exec_rxb, event_rxByte_of_inTime h]
  exact congrArg Host.Outcome.next (event_congr hstep)

end

section
variable {s : State} (byte : Byte) (now : Time)

theorem rxPhaseStep_hunt (h : s.rxPhase = .hunt) : rxPhaseStep byte now s = rxHunt byte s := by simp [rxPhaseStep, h]
theorem rxPhaseStep_ctl (h : s.rxPhase = .ctl) : rxPhaseStep byte now s = rxControl byte s := by simp [rxPhaseStep, h]
theorem rxPhaseStep_len (h : s.rxPhase = .len) : rxPhaseStep byte now s = rxLength byte s := by simp [rxPhaseStep, h]
theorem rxPhaseStep_cks (h : s.rxPhase = .cks) : rxPhaseStep byte now s = rxChecksum byte now s := by
  simp [rxPhaseStep, h]
theorem rxPhaseStep_pay (h : s.rxPhase = .pay) : rxPhaseStep byte now s = rxPayload byte now s := by
  simp [rxPhaseStep, h]
theorem rxPhaseStep_crch (h : s.rxPhase = .crch) : rxPhaseStep byte now s = rxCrcHigh byte s := by simp [rxPhaseStep, h]
theorem rxPhaseStep_crcl (h : s.rxPhase = .crcl) : rxPhaseStep byte now s = rxCrcLow byte now s := by
  simp [rxPhaseStep, h]

/-- Phase PAY on the last byte of a payload that no CRC follows. -/
theorem rxPayload_of_lastNoCrc (h : s.rxCnt + 1 = s.rxLen) (hlen : s.rxLen.toNat ≤ 1) :
    rxPayload byte now s =
      packetStep ⟨s.rxCtl, s.rxLen, (s.rxPay.write s.rxCnt.toNat byte).readBytes 0 1⟩ now
        { s with rxPay := s.rxPay.write s.rxCnt.toNat byte, rxCnt := s.rxCnt + 1, rxPhase := .hunt } :=
  (if_pos h).trans (if_neg (Nat.not_lt.mpr hlen))

end

/-- Settles O14, phase by phase: a late byte and a byte in HUNT are compared with the marker; in time, each other phase
has its own step. -/
theorem rxbAdvancesTheFramer : Obligations.RxbAdvancesTheFramer := by
  intro s now b hopened hidle n waited
  refine ⟨fun hphase hlate => ?late, fun hphase => ?hunt, fun hwaited => ?inTime⟩
  case late =>
    rw [exec_rxb, event_rxByte_of_late hopened hphase hlate]
    exact congrArg Host.Outcome.next (withIdle_eq (s := { s with
      rxTs := n, rxPhase := if b = 0x01 then .ctl else .hunt }) hidle)
  case hunt =>
    exact exec_rxb_of_update ⟨hopened, .inl hphase⟩ hidle
      (.trans (rxPhaseStep_hunt _ _ hphase) (rxHunt_eq (s := byteStarted now s) hphase b))
  case inTime =>
    have hintime : InTime s now := ⟨hopened, .inr (by rwa [← since_sampled s _ now])⟩
    refine ⟨fun hphase => ?ctl, fun hphase => ?len, fun hphase hbad => ?cksWrong,
      fun hphase hok hfollow => ?cksPayload, fun hphase hok hfollow => ?cksPacket,
      fun hphase hmore => ?payMore, fun hphase hlast hlen => ?payCrc, fun hphase hlast hlen => ?payPacket,
      fun hphase => ?crch, fun hphase hcrc => ?crcWrong, fun hphase hcrc => ?crcPacket⟩
    case ctl => exact exec_rxb_of_update hintime hidle (rxPhaseStep_ctl _ _ hphase)
    case len => exact exec_rxb_of_update hintime hidle (rxPhaseStep_len _ _ hphase)
    case cksWrong =>
      exact exec_rxb_of_update hintime hidle
        (.trans (rxPhaseStep_cks _ _ hphase) (rxChecksum_of_wrong (s := byteStarted now s) hbad _))
    case cksPayload =>
      exact exec_rxb_of_update hintime hidle
        (.trans (rxPhaseStep_cks _ _ hphase) (rxChecksum_of_payload (s := byteStarted now s) hok hfollow _))
    case cksPacket =>
      rw [payloadOf_of_follow_zero hfollow]
      exact exec_rxb_of_packet hintime
        (.trans (rxPhaseStep_cks _ _ hphase) (rxChecksum_of_headerOnly (s := byteStarted now s) hok hfollow _))
    case payMore =>
      exact exec_rxb_of_update hintime hidle
        (.trans (rxPhaseStep_pay _ _ hphase) (rxPayload_of_more (s := byteStarted now s) hmore _ _))
    case payCrc =>
      rw [hlast]
      exact exec_rxb_of_update hintime hidle
        (.trans (rxPhaseStep_pay _ _ hphase) (rxPayload_of_last (s := byteStarted now s) hlast hlen _ _))
    case payPacket =>
      exact exec_rxb_of_packet hintime (.trans (rxPhaseStep_pay _ _ hphase) (rxPayload_of_lastNoCrc _ _ hlast hlen))
    case crch => exact exec_rxb_of_update hintime hidle (rxPhaseStep_crch _ _ hphase)
    case crcWrong =>
      exact exec_rxb_of_update hintime hidle (.trans (rxPhaseStep_crcl _ _ hphase) (if_neg hcrc))
    case crcPacket =>
      exact exec_rxb_of_packet hintime (.trans (rxPhaseStep_crcl _ _ hphase) (if_pos hcrc))

/-! ### No connection record (R130 (4), R280) -/

/-- `f` leaves a block without a connection record as it is. -/
def IdleWhenClosed (f : State → State) : Prop := ∀ s : State, s.opened = false → f s = s

theorem idleWhenClosed_rxByte (byte : Byte) (now : Time) : IdleWhenClosed (rxByte byte now) := by
  intro s hopened
  simp [rxByte, hopened]

theorem idleWhenClosed_timerCheck (now : Time) : IdleWhenClosed (timerCheck now) := by
  intro s hopened
  simp [timerCheck, hopened]

theorem idleWhenClosed_dispatchCheck (now : Time) : IdleWhenClosed (dispatchCheck now) := by
  intro s hopened
  simp [dispatchCheck, dispatchReady, hopened]

theorem IdleWhenClosed.event {f : State → State} (hf : IdleWhenClosed f) {s : State} (hopened : s.opened = false)
    (hidle : s.busy = false) : event f s = s :=
  (event_eq_of_update (hf { s with busy := true } hopened)).trans (withIdle_eq hidle)

theorem receive_of_closed {s : State} (hopened : s.opened = false) (hidle : s.busy = false) (bytes : List Byte)
    (now : Time) : receive bytes now s = s := by
  refine receive_induction (P := (· = s)) ?_ bytes rfl
  rintro t byte rfl
  exact (idleWhenClosed_rxByte byte now).event hopened hidle

/-- What comes from the channel is an RXB or the reception of a packet's bytes (R100). -/
theorem exec_of_fromChannel {i : Instr} (h : fromChannel i = true) (s : State) :
    ∃ bytes now, exec i s = .next (receive bytes now s) := by
  cases i with
  | rxb now byte => exact ⟨[byte], now, rfl⟩
  | syn | synack | ack | rst | rstack | finack | data | data1 | datap1 => exact ⟨_, _, rfl⟩
  | _ => cases h

/-- Settles O15: a byte, the timer and the dispatcher each test `open` first. -/
theorem closedBlockIgnoresChannelAndTime : Obligations.ClosedBlockIgnoresChannelAndTime := by
  rintro i s hopened hidle (hchannel | ⟨now, rfl⟩ | ⟨now, rfl⟩)
  · obtain ⟨bytes, now, hexec⟩ := exec_of_fromChannel hchannel s
    rw [hexec, receive_of_closed hopened hidle]
  · exact congrArg Host.Outcome.next ((idleWhenClosed_timerCheck now).event hopened hidle)
  · exact congrArg Host.Outcome.next ((idleWhenClosed_dispatchCheck now).event hopened hidle)

/-! ### A header with a wrong checksum (R124, R130) -/

/-- The header passes through the framer's registers; the framer hunts again at the byte after it. -/
theorem receive_wrongHeader {s : State} (h : HuntReady s) {c l k : Byte} (hbad : headerOk c l k = false)
    (rest : List Byte) (now : Time) :
    receive (headerBytes c l k ++ rest) now s = receive rest now { afterHeader c l now s with busy := false } := by
  obtain ⟨-, hhunt, -⟩ := id h
  have hdiscard : event (rxChecksum k (stamp s now)) (awaiting .cks c l now s) =
      { afterHeader c l now s with rxPhase := .hunt, busy := false } :=
    event_eq_of_update (rxChecksum_of_wrong (s := { awaiting .cks c l now s with busy := true }) hbad _)
  rw [receive_headerBytes h, hdiscard]
  exact congrArg (receive rest now) (withHunt_eq (s := { afterHeader c l now s with busy := false }) hhunt)

/-- Layout H: the whole packet is discarded. -/
theorem receive_wrongHeaderOnly {s : State} (h : HuntReady s) {c l k : Byte} (hbad : headerOk c l k = false)
    (now : Time) : .next (receive (headerBytes c l k) now s) = discards c l now s := by
  have hbytes := receive_wrongHeader h hbad [] now
  rw [List.append_nil] at hbytes
  exact congrArg Host.Outcome.next hbytes

/-- Settles O18: seven forms are a header alone; in the other two the bytes after the header are received as bytes. -/
theorem badChecksumDiscardsTheHeader : Obligations.BadChecksumDiscardsTheHeader := by
  intro s now k h
  refine ⟨fun hbad => ?syn, fun an hbad => ?synack, fun sn an hbad => ?ack, fun sn hbad => ?rst,
    fun sn an hbad => ?rstack, fun sn an hbad => ?finack, fun sn an eor b hbad => ?data1,
    fun sn an eor payload crc hbad => ?data, fun ackf sn an eor b hbad => ?datap1⟩
  case syn | synack | ack | rst | rstack | finack | data1 => exact receive_wrongHeaderOnly h hbad now
  case data =>
    have hbytes := receive_wrongHeader h hbad (payload ++ crcBytes crc) now
    rw [execAll_rxb, ← hbytes, ← List.append_assoc]
    rfl
  case datap1 => exact congrArg Host.Outcome.next (receive_wrongHeader h hbad [b] now)

end Sys2Proof.Machine
end

section
/-! PROOFS of the family 41_state_machine.md, one engine: what the packet step does in each connection state. Each procedure
is read once, at the head of a list; the lists of ESTABLISHED, FIN_WAIT, LAST_ACK and CLOSING begin alike (`connectedStep`).
The packet step of each state follows as an equation that holds in every state. The invariants enter only afterwards: they
say what is outstanding or queued, and so what the answers and failures do to the rest of the block. -/

namespace Sys2Proof.Machine

open Sys2Proof.Spec

/-! ### Answers and failures (R143, R191, R205, R256) -/

/-- A bare ACK is emitted and nothing else (R143, R193). -/
theorem ackReply_eq_emitted (p : Pkt) (now : Time) (s : State) : ackReply p now s = emitted (ackPacket p) s :=
  ackReply_eq p now s

/-- SendSeg of a packet for the slot, with the fragment that it displaces completed (R191, R205). -/
theorem sendSeg_eq_sent {q : List Byte} (hq : retransmittable q = true) (now : Time) (s : State) :
    sendSeg q now false s =
      { sent q now s with
        curValid := false, outs := s.outs ++ [.tx q] ++ completion s .connectionReset } := by
  rw [sendSeg_slot hq]
  cases hcur : s.curValid with
  | true => simp [settle, completion, sent, loadSlot, emit, complete, hcur]
  | false => simp [settle, completion, sent, loadSlot, emit, hcur]

/-- The same with nothing outstanding. -/
theorem sendSeg_of_none {q : List Byte} (hq : retransmittable q = true) (now : Time) {s : State}
    (hcur : s.curValid = false) : sendSeg q now false s = sent q now s := by
  rw [sendSeg_slot hq, settle_of_none (s := emit q s) hcur]
  rfl

theorem retransmittable_rst (sn an : Bool) : retransmittable (makeHeader (mkCtl 0x10 sn an) 0) = true := by
  revert sn an; decide

theorem retransmittable_rstack (sn an : Bool) : retransmittable (makeHeader (mkCtl 0x50 sn an) 0) = true := by
  revert sn an; decide

/-- A reset reply displaces the outstanding fragment (R143, R205). -/
theorem rstReply_eq_sent (p : Pkt) (now : Time) (s : State) :
    rstReply p now s =
      { sent (rstPacket p) now s with
        curValid := false, outs := s.outs ++ [.tx (rstPacket p)] ++ completion s .connectionReset } :=
  sendSeg_eq_sent (retransmittable_rst _ _) now s

theorem rstReply_of_none (p : Pkt) (now : Time) {s : State} (hcur : s.curValid = false) :
    rstReply p now s = sent (rstPacket p) now s :=
  sendSeg_of_none (retransmittable_rst _ _) now hcur

theorem answerSyn_of_none (p : Pkt) (now : Time) {s : State} (hcur : s.curValid = false) :
    answerSyn p now s =
      { sent (synackPacket p) now s with snReceived := pktSn p, snSent := false, conn := .synReceived } := by
  rw [answerSyn, sendSeg_of_none (retransmittable_synack _) now (s := { s with snReceived := pktSn p }) hcur]
  rfl

/-- The failure entry in full (R256). -/
theorem fail_eq_closed (code : Code) (s : State) :
    fail code s =
      { s with
        status := code, conn := .closed, rtxValid := false, curValid := false
        outs := s.outs ++ completion s code } := by
  unfold fail
  cases hcur : s.curValid with
  | true => simp [settle, completion, complete, hcur]
  | false => simp [settle, completion, hcur]

theorem fail_of_none (code : Code) {s : State} (hcur : s.curValid = false) :
    fail code s = { s with status := code, conn := .closed, rtxValid := false } :=
  settle_of_none (s := { s with status := code, conn := .closed, rtxValid := false }) hcur code

/-- The same with an empty slot. -/
theorem fail_of_idle (code : Code) {s : State} (hslot : s.rtxValid = false) (hcur : s.curValid = false) :
    fail code s = { s with status := code, conn := .closed } := by
  rw [fail_of_none code hcur]
  simp [hslot]

theorem fail_rstReply_of_none (code : Code) (p : Pkt) (now : Time) {s : State} (hcur : s.curValid = false) :
    fail code (rstReply p now s) =
      { sent (rstPacket p) now s with status := code, conn := .closed, rtxValid := false } := by
  rw [rstReply_of_none p now hcur, fail_of_none code (s := sent (rstPacket p) now s) hcur]

/-! ### Acknowledgment and data (R162, R194) -/

/-- The acknowledgment part does not read `sn_received`. -/
theorem ackAccepted_withSnReceived (now : Time) (s : State) (sn : Bool) :
    ackAccepted now { s with snReceived := sn } = { ackAccepted now s with snReceived := sn } := by
  cases hslot : s.rtxValid <;> cases hcur : s.curValid <;>
    simp [ackAccepted, settle, sampleRtt, complete, since, hslot, hcur]

/-- With an empty slot and nothing outstanding an acknowledgment finds nothing to do (R194). -/
theorem ackAccepted_of_idle {s : State} (hslot : s.rtxValid = false) (hcur : s.curValid = false) (now : Time) :
    ackAccepted now s = s := by
  rw [ackAccepted, if_neg (by simp [hslot]), settle_of_none hcur]

theorem dispatchReady_of_nothing_queued {s : State} (h : s.txq = []) : dispatchReady s = false := by
  simp [dispatchReady, h]

/-- An acknowledgment goes out alone when nothing is queued. -/
theorem deliver_of_nothing_queued {s : State} (h : s.txq = []) (p : Pkt) (now : Time) :
    deliver p now s = emitted (ackPacket p) { s with rxq := s.rxq ++ [⟨p.bytes, pktEor p⟩], snReceived := pktSn p } := by
  rw [deliver, if_neg, ackReply_eq_emitted]
  simp [dispatchReady_of_nothing_queued, h]

/-! ### The packet step in each state (R140, R144 to R162, R171) -/

@[simp] theorem Verdict.stop_state (s : State) : (Verdict.stop s).state = s := rfl
theorem Verdict.ite_state (c : Prop) [Decidable c] (v w : Verdict) :
    (if c then v else w).state = if c then v.state else w.state := apply_ite _ _ _ _

/-- Procedure I1 stores data that has room, and ignores every other packet (R162). -/
theorem procI1_state (p : Pkt) (now : Time) (s : State) :
    (procI1 p now s).state =
      if pktHasData p && !queueFull s.cfg.rxqDepth s.rxq.length then deliver p now s else s := by
  unfold procI1
  cases pktHasData p <;> cases queueFull s.cfg.rxqDepth s.rxq.length <;> rfl

/-! #### A procedure at the head of a list -/

section

variable (rest : List Proc) (p : Pkt) (now : Time) (s : State)

theorem runProcs_c1 :
    runProcs (.c1 :: rest) p now s =
      if !snExpected p s then (if pktRst p || pktFin p then s else emitted (ackPacket p) s)
      else runProcs rest p now s := by
  rw [runProcs_cons, runProc, procC1]
  cases snExpected p s <;> simp [Verdict.ite_andThen, ackReply_eq_emitted]

theorem runProcs_c2 :
    runProcs (.c2 :: rest) p now s =
      if !snExpected p s then
        (if pktRst p || pktFin p then s
        else if pktSyn p then fail .connectionReset (rstReply p now s)
        else emitted (ackPacket p) s)
      else runProcs rest p now s := by
  rw [runProcs_cons, runProc, procC2]
  cases snExpected p s <;> simp [Verdict.ite_andThen, ackReply_eq_emitted]

theorem runProcs_d1 :
    runProcs (.d1 :: rest) p now s =
      if pktRst p then
        (if s.active then fail .connectionRefused s else { s with rtxValid := false, retry := 0, conn := .listen })
      else runProcs rest p now s := by
  rw [runProcs_cons, runProc, procD1]
  cases pktRst p <;> cases s.active <;> rfl

/-- Procedures D2 and D3 (R149, R150). -/
theorem runProcs_reset {d : Proc} (hd : d = .d2 ∨ d = .d3) :
    runProcs (d :: rest) p now s = if pktRst p then fail .connectionReset s else runProcs rest p now s := by
  have hrun : runProc d p now s = if !pktRst p then .cont s else .stop (fail .connectionReset s) := by
    rcases hd with rfl | rfl <;> rfl
  rw [runProcs_cons, hrun]
  cases pktRst p <;> rfl

theorem runProcs_e :
    runProcs (.e :: rest) p now s =
      if pktSyn p then fail .connectionReset (rstReply p now s) else runProcs rest p now s := by
  rw [runProcs_cons, runProc, procE]
  cases pktSyn p <;> rfl

theorem runProcs_f1 :
    runProcs (.f1 :: rest) p now s =
      if !pktAck p then s
      else if !anExpected p s then
        (if s.active then fail .connectionRefused (rstReply p now s) else { rstReply p now s with conn := .listen })
      else runProcs rest p now (ackAccepted now s) := by
  rw [runProcs_cons, runProc, procF1]
  cases pktAck p <;> cases anExpected p s <;> cases s.active <;> rfl

/-- Procedures F2 and F3 (R153, R154). -/
theorem runProcs_ack {f : Proc} (hf : f = .f2 ∨ f = .f3) :
    runProcs (f :: rest) p now s = if !pktAck p then s else runProcs rest p now (afterAck p now s) := by
  have hrun : runProc f p now s = if !pktAck p then .stop s else .cont (afterAck p now s) := by
    rcases hf with rfl | rfl <;> exact ite_congr rfl (fun _ => rfl) fun _ => (apply_ite Verdict.cont _ _ _).symm
  rw [runProcs_cons, hrun, Verdict.ite_andThen]
  rfl

theorem runProcs_h2 :
    runProcs (.h2 :: rest) p now s = if pktFin p then (procH2 p now s).state else runProcs rest p now s := by
  rw [runProcs_cons, runProc, procH2]
  cases pktFin p <;> rfl

end

/-! #### The lists -/

/-- How the lists of ESTABLISHED, FIN_WAIT, LAST_ACK and CLOSING begin: procedures C2, D2 or D3, E, F2 or F3; `tail` is what
follows on a packet that passes them all. -/
def connectedStep (tail : State → State) (p : Pkt) (now : Time) (s : State) : State :=
  if !snExpected p s && (pktRst p || pktFin p) then s
  else if !snExpected p s && !pktSyn p then emitted (ackPacket p) s
  else if pktRst p then fail .connectionReset s
  else if pktSyn p then fail .connectionReset (rstReply p now s)
  else if !pktAck p then s
  else tail (afterAck p now s)

theorem runProcs_connected {d f : Proc} (hd : d = .d2 ∨ d = .d3) (hf : f = .f2 ∨ f = .f3) (rest : List Proc) (p : Pkt)
    (now : Time) (s : State) :
    runProcs (.c2 :: d :: .e :: f :: rest) p now s = connectedStep (runProcs rest p now) p now s := by
  rw [runProcs_c2, runProcs_reset _ _ _ _ hd, runProcs_e, runProcs_ack _ _ _ _ hf, connectedStep]
  cases snExpected p s with
  | true => rfl
  | false =>
    cases pktRst p with
    | true => rfl
    | false => cases pktFin p <;> cases pktSyn p <;> rfl

section

variable {s : State} (p : Pkt) (now : Time)

theorem packetStep_of_listen (h : s.conn = .listen) :
    packetStep p now s =
      if pktRst p then s
      else if pktAck p then rstReply p now s
      else if pktSyn p then answerSyn p now s
      else s := by
  rw [packetStep, h, procList, runProcs_single, runProc, procA]
  simp only [Verdict.ite_state, Verdict.stop_state]

theorem packetStep_of_synSent (h : s.conn = .synSent) :
    packetStep p now s =
      if pktAck p && !anExpected p s then (if pktRst p then s else rstReply p now s)
      else if pktRst p then fail .connectionRefused s
      else if pktSyn p && pktAck p then completeOpen p now s
      else if pktSyn p then answerSyn p now s
      else s := by
  rw [packetStep, h, procList, runProcs_single, runProc, procB]
  simp only [Verdict.ite_state, Verdict.stop_state]
  cases pktSyn p <;> rfl

theorem packetStep_of_synReceived (h : s.conn = .synReceived) :
    packetStep p now s =
      if !snExpected p s then (if pktRst p || pktFin p then s else emitted (ackPacket p) s)
      else if pktRst p then
        (if s.active then fail .connectionRefused s else { s with rtxValid := false, retry := 0, conn := .listen })
      else if pktSyn p then fail .connectionReset (rstReply p now s)
      else if !pktAck p then s
      else if !anExpected p s then
        (if s.active then fail .connectionRefused (rstReply p now s) else { rstReply p now s with conn := .listen })
      else (procI1 p now { ackAccepted now s with conn := .established }).state := by
  rw [packetStep, h, procList, runProcs_c1, runProcs_d1, runProcs_e, runProcs_f1]
  rfl

theorem packetStep_of_established (h : s.conn = .established) :
    packetStep p now s =
      connectedStep (fun t => if pktFin p then (procH2 p now t).state else (procI1 p now t).state) p now s := by
  rw [packetStep, h, procList, runProcs_connected (.inl rfl) (.inl rfl)]
  simp only [connectedStep, runProcs_h2, runProcs_single, runProc]

theorem packetStep_of_finWait (h : s.conn = .finWait) :
    packetStep p now s = connectedStep (fun t => (procH3 p now t).state) p now s := by
  rw [packetStep, h, procList, runProcs_connected (.inl rfl) (.inr rfl)]
  simp only [connectedStep, runProcs_single, runProc]

theorem packetStep_of_lastAck (h : s.conn = .lastAck) :
    packetStep p now s = connectedStep (fun t => (procH4 p now t).state) p now s := by
  rw [packetStep, h, procList, runProcs_connected (.inr rfl) (.inr rfl)]
  simp only [connectedStep, runProcs_single, runProc]

theorem packetStep_of_closing (h : s.conn = .closing) :
    packetStep p now s = connectedStep (fun t => (procH5 p now t).state) p now s := by
  rw [packetStep, h, procList, runProcs_connected (.inr rfl) (.inr rfl)]
  simp only [connectedStep, runProcs_single, runProc]

theorem packetStep_of_timeWait (h : s.conn = .timeWait) :
    packetStep p now s =
      if pktRst p then fail .connectionReset s
      else if pktSyn p then fail .connectionReset (rstReply p now s)
      else if !pktAck p then s
      else (procH6 p now (afterAck p now s)).state := by
  rw [packetStep, h, procList, runProcs_reset _ _ _ _ (.inr rfl), runProcs_e, runProcs_ack _ _ _ _ (.inr rfl),
    runProcs_single, runProc]

theorem packetStep_of_closed (h : s.conn = .closed) :
    packetStep p now s =
      if pktRst p then s
      else if pktAck p then emitted (makeHeader (mkCtl 0x10 (pktAn p) false) 0) s
      else emitted (makeHeader (mkCtl 0x50 false (!pktSn p)) 0) s := by
  rw [packetStep, h, procList, runProcs_single, runProc, procG]
  simp only [Verdict.ite_state, Verdict.stop_state]
  rfl

end

/-! ### CLOSED, LISTEN and SYN_SENT -/

/-- Settles O26: procedure G needs no invariant. -/
theorem closedAnswers : Obligations.ClosedAnswers := fun _ p now h => packetStep_of_closed p now h

namespace InvInEvent

variable {s : State}

/-- A connection that is not closed is open (R21). -/
theorem opened_of_conn (h : InvInEvent s) (hconn : s.conn ≠ .closed) : s.opened = true :=
  Inv.opened_of_conn (s := { s with busy := false }) h hconn

/-- A fragment is outstanding in ESTABLISHED only (R41). -/
theorem curValid_of_ne (h : InvInEvent s) (hconn : s.conn ≠ .established) : s.curValid = false :=
  Inv.no_outstanding (s := { s with busy := false }) h hconn

/-- Before ESTABLISHED nothing is queued (R41 (v)). -/
theorem txq_of_before (h : InvInEvent s) (hbefore : afterEstablished s.conn = false) : s.txq = [] :=
  Inv.nothing_queued (s := { s with busy := false }) h hbefore

end InvInEvent

/-- Settles O20: in LISTEN nothing is outstanding that a reply could displace. -/
theorem listenAnswers : Obligations.ListenAnswers := by
  intro s p now hinv hconn
  have hcur := InvInEvent.curValid_of_ne hinv (by simp [hconn])
  rw [packetStep_of_listen p now hconn, rstReply_of_none p now hcur, answerSyn_of_none p now hcur]

/-- With nothing queued the acknowledgment of the SYN+ACK goes out alone. -/
theorem completeOpen_of_nothing_queued {s : State} (h : s.txq = []) (p : Pkt) (now : Time) :
    completeOpen p now s =
      emitted (ackPacket p) { ackAccepted now s with snReceived := pktSn p, conn := .established } := by
  rw [completeOpen, if_neg, ackReply_eq_emitted, ackAccepted_withSnReceived]
  simp [dispatchReady_of_nothing_queued, h]

/-- Settles O21: in SYN_SENT nothing is outstanding, and nothing is queued that the acknowledgment could carry. -/
theorem synSentAnswers : Obligations.SynSentAnswers := by
  intro s p now hinv hconn
  have hcur := InvInEvent.curValid_of_ne hinv (by simp [hconn])
  have hqueue := InvInEvent.txq_of_before hinv (by simp [hconn, afterEstablished])
  rw [packetStep_of_synSent p now hconn, rstReply_of_none p now hcur, fail_of_none _ hcur,
    completeOpen_of_nothing_queued hqueue, answerSyn_of_none p now hcur]

/-! ### SYN_RECEIVED -/

/-- Settles O22: in SYN_RECEIVED nothing is outstanding or queued. -/
theorem synReceivedAnswers : Obligations.SynReceivedAnswers := by
  intro s p now hinv hconn
  have hcur := InvInEvent.curValid_of_ne hinv (by simp [hconn])
  have hqueue : (ackAccepted now s).txq = [] := by
    simpa using InvInEvent.txq_of_before hinv (by simp [hconn, afterEstablished])
  rw [packetStep_of_synReceived p now hconn, fail_rstReply_of_none _ p now hcur, fail_rstReply_of_none _ p now hcur,
    fail_of_none _ hcur, rstReply_of_none p now hcur, procI1_state,
    deliver_of_nothing_queued (s := { ackAccepted now s with conn := .established }) hqueue]
  simp only [ackAccepted_cfg, ackAccepted_rxq]

/-! ### ESTABLISHED and the closing states -/

@[simp] theorem afterAck_cfg (p : Pkt) (now : Time) (s : State) : (afterAck p now s).cfg = s.cfg := by
  unfold afterAck
  split <;> simp

@[simp] theorem afterAck_opened (p : Pkt) (now : Time) (s : State) : (afterAck p now s).opened = s.opened := by
  unfold afterAck
  split <;> simp

@[simp] theorem afterAck_rxq (p : Pkt) (now : Time) (s : State) : (afterAck p now s).rxq = s.rxq := by
  unfold afterAck
  split <;> simp

@[simp] theorem afterAck_txq (p : Pkt) (now : Time) (s : State) : (afterAck p now s).txq = s.txq := by
  unfold afterAck
  split <;> simp

/-- The slot holds the outstanding fragment or nothing, before and after the acknowledgment part (R41 (ii)). -/
theorem afterAck_slot {s : State} (h : s.rtxValid = s.curValid) (p : Pkt) (now : Time) :
    (afterAck p now s).rtxValid = (afterAck p now s).curValid := by
  unfold afterAck
  split
  · simp
  · exact h

/-- In ESTABLISHED the dispatcher waits for the outstanding fragment alone, and an acknowledgment goes out alone when
nothing can be dispatched (R162, R200). -/
theorem deliver_of_established {s : State} (hopened : s.opened = true) (hconn : s.conn = .established)
    (hslot : s.rtxValid = s.curValid) (p : Pkt) (now : Time) :
    deliver p now s =
      let t := { s with rxq := s.rxq ++ [⟨p.bytes, pktEor p⟩], snReceived := pktSn p }
      if s.curValid || s.txq.isEmpty then emitted (ackPacket p) t else dispatch now t := by
  rw [deliver, ackReply_eq_emitted, dispatchReady, hslot, hopened, hconn]
  cases s.curValid <;> cases s.txq.isEmpty <;> rfl

theorem fail_rstReply (p : Pkt) (now : Time) (s : State) (code : Code) :
    fail code (rstReply p now s) =
      { sent (rstPacket p) now s with
        status := code, conn := .closed, rtxValid := false, curValid := false
        outs := s.outs ++ [.tx (rstPacket p)] ++ completion s .connectionReset } := by
  rw [fail_of_none code (rstReply_curValid p now s), rstReply_eq_sent]

/-- A FIN is answered with FIN+ACK at once (R157). -/
theorem procH2_of_fin {p : Pkt} (hfin : pktFin p = true) (now : Time) (s : State) :
    (procH2 p now s).state =
      { sent (makeHeader (mkCtl 0x60 (pktAn p) (!pktSn p)) 0) now s with
        snReceived := pktSn p, snSent := pktAn p, conn := .lastAck, curValid := false
        outs := s.outs ++ [.tx (makeHeader (mkCtl 0x60 (pktAn p) (!pktSn p)) 0)] ++ completion s .connectionReset } := by
  rw [procH2, hfin, sendSeg_eq_sent (retransmittable_finack _ _)]
  rfl

/-- Settles O23: in ESTABLISHED the slot holds the outstanding fragment, which a failure or a FIN completes. -/
theorem establishedAnswers : Obligations.EstablishedAnswers := by
  intro s p now (hinv : InvInEvent s) hconn
  have hopened := hinv.opened_of_conn (by simp [hconn])
  have hslot : s.rtxValid = s.curValid := hinv.establishedSlot hconn
  rw [packetStep_of_established p now hconn, connectedStep, fail_eq_closed, fail_rstReply, procI1_state,
    deliver_of_established (by simpa using hopened) (by simpa using hconn) (afterAck_slot hslot p now)]
  simp only [afterAck_cfg, afterAck_rxq]
  cases hfin : pktFin p with
  | true => rw [procH2_of_fin hfin]
  | false => rfl

/-- The gates of a closing state, where nothing is outstanding. -/
theorem connectedStep_of_none {s : State} (hcur : s.curValid = false) (tail : State → State) (p : Pkt) (now : Time) :
    connectedStep tail p now s =
      if !snExpected p s && (pktRst p || pktFin p) then s
      else if !snExpected p s && !pktSyn p then emitted (ackPacket p) s
      else if pktRst p then { s with status := .connectionReset, conn := .closed, rtxValid := false }
      else if pktSyn p then
        { sent (rstPacket p) now s with status := .connectionReset, conn := .closed, rtxValid := false }
      else if !pktAck p then s
      else tail (afterAck p now s) := by
  rw [connectedStep, fail_of_none _ hcur, fail_rstReply_of_none _ p now hcur]

theorem afterAck_curValid {s : State} (hcur : s.curValid = false) (p : Pkt) (now : Time) :
    (afterAck p now s).curValid = false := by
  unfold afterAck
  split
  · simp
  · exact hcur

@[simp] theorem anExpected_afterAck (p : Pkt) (now : Time) (s : State) :
    anExpected p (afterAck p now s) = anExpected p s := by
  simp [anExpected]

/-- Procedure H3 on a packet with ACK, after the acknowledgment part and with nothing outstanding (R158). -/
theorem procH3_afterAck {p : Pkt} {s : State} (hack : pktAck p = true) (hcur : s.curValid = false) (now : Time) :
    (procH3 p now (afterAck p now s)).state =
      if !pktFin p then afterAck p now s
      else if pktHasData p then
        { sent (makeHeader (mkCtl 0x50 (pktAn p) (!pktSn p)) 0) now (afterAck p now s) with
          status := .connectionReset, conn := .closed, rtxValid := false }
      else if anExpected p s then
        { emitted (ackPacket p) (afterAck p now s) with twTs := now, conn := .timeWait }
      else { emitted (ackPacket p) s with conn := .closing } := by
  have hrsn : rsn p = pktAn p := by rw [rsn, hack, Bool.true_and]
  have hcur' := afterAck_curValid hcur p now
  rw [procH3, hrsn, sendSeg_of_none (retransmittable_rstack _ _) now hcur', ackReply_eq_emitted,
    fail_of_none (s := sent _ now (afterAck p now s)) _ hcur', anExpected_afterAck]
  simp only [Verdict.ite_state, Verdict.stop_state]
  cases han : anExpected p s with
  | true => rfl
  | false => rw [afterAck_of_not_anExpected (by simp [han])]

/-- Settles O24: the gates, and procedure H3 after the acknowledgment part. -/
theorem finWaitAnswers : Obligations.FinWaitAnswers := by
  intro s p now (hinv : InvInEvent s) hconn
  have hcur := hinv.curValid_of_ne (by simp [hconn])
  rw [packetStep_of_finWait p now hconn, connectedStep_of_none hcur]
  cases hack : pktAck p with
  | true => rw [procH3_afterAck hack hcur]
  | false => rfl

/-- Procedure H4 after the acknowledgment part (R159). -/
theorem procH4_afterAck (p : Pkt) (now : Time) (s : State) :
    (procH4 p now (afterAck p now s)).state =
      if anExpected p s then { ackAccepted now s with status := .connectionReset, conn := .closed } else s := by
  rw [procH4, anExpected_afterAck]
  cases han : anExpected p s with
  | true =>
    rw [afterAck_of_anExpected han, fail_of_idle _ (ackAccepted_rtxValid now s) (ackAccepted_curValid now s)]
    rfl
  | false => rw [afterAck_of_not_anExpected (by simp [han])]; rfl

/-- Procedure H5 after the acknowledgment part (R160). -/
theorem procH5_afterAck (p : Pkt) (now : Time) (s : State) :
    (procH5 p now (afterAck p now s)).state =
      if anExpected p s then { ackAccepted now s with twTs := now, conn := .timeWait } else s := by
  rw [procH5, anExpected_afterAck]
  cases han : anExpected p s with
  | true => rw [afterAck_of_anExpected han]; rfl
  | false => rw [afterAck_of_not_anExpected (by simp [han])]; rfl

/-- Settles O25: LAST_ACK and CLOSING are the gates and procedures H4 and H5; in TIME_WAIT the slot is empty, and the
acknowledgment part does nothing. -/
theorem lateClosingStatesAnswer : Obligations.LateClosingStatesAnswer := by
  intro s p now (hinv : InvInEvent s)
  refine ⟨fun hconn => ?_, fun hconn => ?_⟩
  · have hcur := hinv.curValid_of_ne (by rcases hconn with h | h <;> simp [h])
    rcases hconn with hconn | hconn
    · rw [packetStep_of_lastAck p now hconn, connectedStep_of_none hcur, procH4_afterAck]
      cases pktAck p <;> simp [hconn]
    · rw [packetStep_of_closing p now hconn, connectedStep_of_none hcur, procH5_afterAck]
      cases pktAck p <;> simp [hconn]
  · have hcur := hinv.curValid_of_ne (by simp [hconn])
    have hslot : s.rtxValid = false := hinv.timeWaitSlot hconn
    have hidle : afterAck p now s = s := by simp [afterAck, ackAccepted_of_idle hslot hcur]
    rw [packetStep_of_timeWait p now hconn, fail_rstReply_of_none _ p now hcur, fail_of_idle _ hslot hcur,
      hidle, procH6, ackReply_eq_emitted]
    cases pktAck p <;> cases pktFin p <;> rfl

/-! ### The transition table (R172) -/

/-- The two registers that the transition table speaks of. -/
def tableRegisters (s : State) : ConnState × Code := (s.conn, s.status)

@[simp] theorem tableRegisters_emitted (q : List Byte) (s : State) : tableRegisters (emitted q s) = tableRegisters s := rfl

@[simp] theorem tableRegisters_fail (code : Code) (s : State) : tableRegisters (fail code s) = (.closed, code) := by
  simp [tableRegisters]

@[simp] theorem tableRegisters_rstReply (p : Pkt) (now : Time) (s : State) :
    tableRegisters (rstReply p now s) = tableRegisters s := by
  simp [tableRegisters]

@[simp] theorem tableRegisters_answerSyn (p : Pkt) (now : Time) (s : State) :
    tableRegisters (answerSyn p now s) = (.synReceived, s.status) := by
  simp [tableRegisters, answerSyn]

@[simp] theorem tableRegisters_afterAck (p : Pkt) (now : Time) (s : State) :
    tableRegisters (afterAck p now s) = tableRegisters s := by
  unfold afterAck
  split <;> simp [tableRegisters]

/-- Dispatch leaves the receiving side and `status` as they are (R200). -/
theorem dispatch_frame (now : Time) (s : State) :
    (dispatch now s).status = s.status ∧ (dispatch now s).rxq = s.rxq ∧ (dispatch now s).snReceived = s.snReceived := by
  cases hq : s.txq with
  | nil => simp [dispatch, hq]
  | cons e rest => simp [dispatch_cons hq]

/-- An acknowledgment, alone or with queued data, leaves both registers (R162, R200). -/
theorem tableRegisters_dispatchOrAck (p : Pkt) (now : Time) (s : State) :
    tableRegisters (if dispatchReady s then dispatch now s else ackReply p now s) = tableRegisters s := by
  split <;> simp [tableRegisters, dispatch_conn, dispatch_frame]

@[simp] theorem tableRegisters_completeOpen (p : Pkt) (now : Time) (s : State) :
    tableRegisters (completeOpen p now s) = (.established, s.status) :=
  (tableRegisters_dispatchOrAck p now _).trans (by simp [tableRegisters])

@[simp] theorem tableRegisters_procI1 (p : Pkt) (now : Time) (s : State) :
    tableRegisters (procI1 p now s).state = tableRegisters s := by
  rw [procI1_state]
  split
  · exact tableRegisters_dispatchOrAck p now _
  · rfl

theorem tableRegisters_procH2 {p : Pkt} (hfin : pktFin p = true) (now : Time) (s : State) :
    tableRegisters (procH2 p now s).state = (.lastAck, s.status) := by
  rw [procH2_of_fin hfin]
  rfl

theorem tableRegisters_ite (c : Prop) [Decidable c] (s t : State) :
    tableRegisters (if c then s else t) = if c then tableRegisters s else tableRegisters t := apply_ite _ _ _ _

theorem tableRegisters_connectedStep (tail : State → State) (p : Pkt) (now : Time) (s : State) :
    tableRegisters (connectedStep tail p now s) =
      if !snExpected p s && !pktRst p && !pktFin p && pktSyn p then (.closed, .connectionReset)
      else if snExpected p s && pktRst p then (.closed, .connectionReset)
      else if snExpected p s && !pktRst p && pktSyn p then (.closed, .connectionReset)
      else if snExpected p s && !pktRst p && !pktSyn p && pktAck p then tableRegisters (tail (afterAck p now s))
      else tableRegisters s := by
  simp only [connectedStep, tableRegisters_ite, tableRegisters_emitted, tableRegisters_fail]
  grind

theorem tableRegisters_procH3 (p : Pkt) (now : Time) (s : State) :
    tableRegisters (procH3 p now s).state =
      if !pktFin p then tableRegisters s
      else if pktHasData p then (.closed, .connectionReset)
      else if anExpected p s then (.timeWait, s.status)
      else (.closing, s.status) := by
  simp only [procH3, Verdict.ite_state, Verdict.stop_state, tableRegisters_ite, tableRegisters_fail]
  simp [tableRegisters]

theorem tableRegisters_procH4 (p : Pkt) (now : Time) (s : State) :
    tableRegisters (procH4 p now s).state =
      if anExpected p s then (.closed, .connectionReset) else tableRegisters s := by
  simp only [procH4, Verdict.ite_state, Verdict.stop_state, tableRegisters_ite, tableRegisters_fail]

theorem tableRegisters_procH5 (p : Pkt) (now : Time) (s : State) :
    tableRegisters (procH5 p now s).state = if anExpected p s then (.timeWait, s.status) else tableRegisters s := by
  simp only [procH5, Verdict.ite_state, Verdict.stop_state, tableRegisters_ite]
  rfl

theorem tableRegisters_procH6 (p : Pkt) (now : Time) (s : State) :
    tableRegisters (procH6 p now s).state = tableRegisters s := by
  unfold procH6
  split <;> simp [tableRegisters]

/-- Settles O27: in each state the branches of the list are the rows of the table, over the same truth values. -/
theorem procedureListsRealiseTheTransitionTable : Obligations.ProcedureListsRealiseTheTransitionTable := by
  intro s p now
  suffices h : tableRegisters (packetStep p now s) = tableNext s p from Prod.ext_iff.mp h
  have hsn : (pktSn p == !s.snReceived) = snExpected p s := rfl
  have han : (pktAn p == !s.snSent) = anExpected p s := rfl
  have hstatus : (afterAck p now s).status = s.status := congrArg Prod.snd (tableRegisters_afterAck p now s)
  have hself {c : ConnState} (hconn : s.conn = c) : tableRegisters s = (c, s.status) := by rw [tableRegisters, hconn]
  simp only [tableNext, hsn, han]
  cases hconn : s.conn with
  | listen =>
    simp only [packetStep_of_listen p now hconn, tableRegisters_ite, tableRegisters_rstReply, tableRegisters_answerSyn,
      hself hconn]
    grind
  | synSent =>
    simp only [packetStep_of_synSent p now hconn, tableRegisters_ite, tableRegisters_rstReply, tableRegisters_answerSyn,
      tableRegisters_fail, tableRegisters_completeOpen, hself hconn]
    grind
  | synReceived =>
    simp only [packetStep_of_synReceived p now hconn, tableRegisters_ite, tableRegisters_emitted, tableRegisters_fail,
      tableRegisters_procI1, hself hconn]
    simp only [tableRegisters, rstReply_status, ackAccepted_status]
    cases snExpected p s with
    | false => simp
    | true => cases s.active <;> grind
  | established =>
    simp only [packetStep_of_established p now hconn, tableRegisters_connectedStep, hself hconn]
    cases hfin : pktFin p with
    | true => simp [tableRegisters_procH2 hfin, hstatus, Bool.and_assoc]
    | false => simp [hself hconn]
  | finWait =>
    simp only [packetStep_of_finWait p now hconn, tableRegisters_connectedStep, tableRegisters_procH3,
      tableRegisters_afterAck, anExpected_afterAck, hstatus, hself hconn]
    grind
  | lastAck =>
    simp only [packetStep_of_lastAck p now hconn, tableRegisters_connectedStep, tableRegisters_procH4,
      tableRegisters_afterAck, anExpected_afterAck, hself hconn]
    grind
  | closing =>
    simp only [packetStep_of_closing p now hconn, tableRegisters_connectedStep, tableRegisters_procH5,
      tableRegisters_afterAck, anExpected_afterAck, hstatus, hself hconn]
    grind
  | timeWait =>
    simp only [packetStep_of_timeWait p now hconn, tableRegisters_ite, tableRegisters_fail, tableRegisters_procH6,
      tableRegisters_afterAck, hself hconn]
    grind
  | closed =>
    simp only [packetStep_of_closed p now hconn, tableRegisters_ite, tableRegisters_emitted, hself hconn, ite_self]

/-! ### Data in ESTABLISHED (R147, R162, R202) -/

@[simp] theorem deliver_rxq (p : Pkt) (now : Time) (s : State) :
    (deliver p now s).rxq = s.rxq ++ [⟨p.bytes, pktEor p⟩] := by
  simp only [deliver]
  split <;> simp [dispatch_frame]

@[simp] theorem deliver_snReceived (p : Pkt) (now : Time) (s : State) : (deliver p now s).snReceived = pktSn p := by
  simp only [deliver]
  split <;> simp [dispatch_frame]

@[simp] theorem deliver_conn (p : Pkt) (now : Time) (s : State) : (deliver p now s).conn = s.conn := by
  simp only [deliver]
  split <;> simp [dispatch_conn]

/-- A packet that only acknowledges and carries data: no RST, SYN or FIN, and the ACK flag. -/
structure PlainAck (p : Pkt) : Prop where
  rst : pktRst p = false
  syn : pktSyn p = false
  fin : pktFin p = false
  ack : pktAck p = true

namespace PlainAck

variable {p : Pkt} {s : State}

/-- In ESTABLISHED such a packet, next in sequence, is an acknowledgment and then data (R153, R162). -/
theorem packetStep_of_expected (h : PlainAck p) (hconn : s.conn = .established) (hsn : snExpected p s = true)
    (now : Time) : packetStep p now s = (procI1 p now (afterAck p now s)).state := by
  simp [packetStep_of_established p now hconn, connectedStep, hsn, h.rst, h.syn, h.fin, h.ack]

/-- Its data is delivered when there is room. -/
theorem packetStep_of_data (h : PlainAck p) (hconn : s.conn = .established) (hsn : snExpected p s = true)
    (hdata : pktHasData p = true) (hroom : queueFull s.cfg.rxqDepth s.rxq.length = false) (now : Time) :
    packetStep p now s = deliver p now (afterAck p now s) := by
  simp [h.packetStep_of_expected hconn hsn, procI1_state, hdata, hroom]

/-- Without data it is an acknowledgment alone. -/
theorem packetStep_of_noData (h : PlainAck p) (hconn : s.conn = .established) (hsn : snExpected p s = true)
    (hdata : pktHasData p = false) (now : Time) : packetStep p now s = afterAck p now s := by
  simp [h.packetStep_of_expected hconn hsn, procI1_state, hdata]

/-- Out of sequence it is acknowledged and nothing else (R147). -/
theorem packetStep_of_duplicate (h : PlainAck p) (hconn : s.conn = .established) (hsn : snExpected p s = false)
    (now : Time) : packetStep p now s = emitted (ackPacket p) s := by
  simp [packetStep_of_established p now hconn, connectedStep, hsn, h.rst, h.syn, h.fin]

end PlainAck

/-- Settles O52: what is stored moves `sn_received` to the packet's own SN, which is then out of sequence. -/
theorem duplicateDataIsAcknowledgedNotStored : Obligations.DuplicateDataIsAcknowledgedNotStored := by
  intro s p now later _ hconn hsn hrst hsyn hfin hack hdata hroom t
  have hplain : PlainAck p := ⟨hrst, hsyn, hfin, hack⟩
  have ht : t = deliver p now (afterAck p now s) := hplain.packetStep_of_data hconn hsn hdata hroom now
  have hsn' : t.snReceived = pktSn p := by rw [ht, deliver_snReceived]
  refine ⟨by rw [ht, deliver_rxq, afterAck_rxq], hsn', ?_⟩
  refine hplain.packetStep_of_duplicate ?_ (by simp [snExpected, hsn']) later
  rw [ht, deliver_conn, afterAck_conn, hconn]

end Sys2Proof.Machine
end

section
/-! PROOFS of the family 41_state_machine.md, two engines: the handshake and the delivery of a fragment. Each event is
followed from the packet's reception to the state it leaves and the packet it answers with, which the other engine receives
next. -/

namespace Sys2Proof.Machine

open Sys2Proof.Spec

/-! ### The streams of outputs (R44) -/

theorem ackAccepted_outs (now : Time) (s : State) : (ackAccepted now s).outs = s.outs ++ completion s .ok := by
  cases hslot : s.rtxValid <;> cases hcur : s.curValid <;> simp [ackAccepted, completion, hslot, hcur]

theorem completions_append (a b : List Output) : completions (a ++ b) = completions a ++ completions b := by
  induction a with
  | nil => rfl
  | cons x rest ih => cases x <;> simp [completions, ih]

theorem txStream_completion (s : State) (code : Code) : txStream (completion s code) = [] := by
  unfold completion
  split <;> rfl

theorem txStream_afterAck (p : Pkt) (now : Time) (s : State) : txStream (afterAck p now s).outs = txStream s.outs := by
  unfold afterAck
  split
  · rw [ackAccepted_outs, txStream_append, txStream_completion, List.append_nil]
  · rfl

/-! ### A received packet of layout H without data -/

/-- `s` when the packet step of a received packet begins (R128). -/
def received (c l : Byte) (now : Time) (s : State) : State := { afterHeader c l now s with busy := true }

/-- A received packet of layout H without data, when the packet step that it runs is known. -/
theorem receive_of_packetStep {s t : State} (h : HuntReady s) {c l k : Byte} (hok : headerOk c l k = true)
    (hso : ctlSo c = false) (hdata : hasData c l = false) {now : Time}
    (hstep : packetStep ⟨c, l, []⟩ (stamp s now) (received c l now s) = t) :
    receive (headerBytes c l k) now s = { t with busy := false } :=
  (Host.Outcome.next.inj (receive_noData h hok hso hdata now)).trans (event_eq_of_update hstep)

/-! ### The handshake (R283) -/

/-- The SYN+ACK that answers this side's SYN, in SYN_SENT (R145). -/
theorem packetStep_synack {s : State} (hconn : s.conn = .synSent) (hsn : s.snSent = false) (hqueue : s.txq = [])
    (now : Time) :
    packetStep ⟨0xC4, 0xFF, []⟩ now s =
      emitted [0x01, 0x4C, 0x00, 0xB3] { ackAccepted now s with snReceived := false, conn := .established } := by
  have han : anExpected ⟨0xC4, 0xFF, []⟩ s = true := by rw [anExpected, hsn]; rfl
  rw [packetStep_of_synSent _ now hconn, completeOpen_of_nothing_queued hqueue, han]
  rfl

/-- A SYN in LISTEN (R144). -/
theorem packetStep_syn {s : State} (hconn : s.conn = .listen) (hcur : s.curValid = false) (now : Time) :
    packetStep ⟨0x80, 0xFF, []⟩ now s =
      { sent [0x01, 0xC4, 0xFF, 0x3C] now s with snReceived := false, snSent := false, conn := .synReceived } := by
  rw [packetStep_of_listen _ now hconn, answerSyn_of_none _ now hcur]
  rfl

/-- The acknowledgment of this side's SYN+ACK, in SYN_RECEIVED (R152, R156). -/
theorem packetStep_ack {s : State} (hconn : s.conn = .synReceived) (hsent : s.snSent = false)
    (hreceived : s.snReceived = false) (now : Time) :
    packetStep ⟨0x4C, 0x00, []⟩ now s = { ackAccepted now s with conn := .established } := by
  have hsn : snExpected ⟨0x4C, 0x00, []⟩ s = true := by rw [snExpected, hreceived]; rfl
  have han : anExpected ⟨0x4C, 0x00, []⟩ s = true := by rw [anExpected, hsent]; rfl
  rw [packetStep_of_synReceived _ now hconn, hsn, han]
  rfl

/-- A connection record before its first packet: nothing is queued or outstanding, and a packet that arrives whole is
read. -/
structure Opening (conn : ConnState) (s : State) : Prop where
  ready : HuntReady s
  conn : s.conn = conn
  snSent : s.snSent = false
  snReceived : s.snReceived = false
  nothingQueued : s.txq = []
  nothingOutstanding : s.curValid = false

/-- A new active connection, its SYN in the slot (R216). -/
theorem exec_opena_of_closed {x : State} (hopened : x.opened = false) (hidle : x.busy = false) (htime : x.cfg.tByte ≠ 0)
    (now : Time) :
    ∃ t, exec (.opena now) x = .next t ∧ Opening .synSent t ∧
      t.outs = x.outs ++ [.tx [0x01, 0x80, 0xFF, 0x80], .respond .ok none] := by
  have hopen : cmdOpenActive now { x with busy := true } = openActive (stamp x now) { x with busy := true } :=
    if_neg (by simp [hopened])
  refine ⟨{ openActive (stamp x now) { x with busy := true } with busy := false }, ?_, ?_, ?_⟩
  · change runCommand _ _ = _
    rw [runCommand, hidle, event, hopen]
    rfl
  · exact ⟨⟨rfl, rfl, htime⟩, rfl, rfl, rfl, rfl, rfl⟩
  · exact List.append_assoc x.outs [_] [_]

/-- A new passive connection (R217). -/
theorem exec_openp_of_closed {y : State} (hopened : y.opened = false) (hidle : y.busy = false) (htime : y.cfg.tByte ≠ 0)
    (now : Time) : ∃ t, exec (.openp now) y = .next t ∧ Opening .listen t := by
  have hopen : cmdOpenPassive { y with busy := true } = respond .ok none
      { resetTcb y with opened := true, active := false, conn := .listen, busy := true } := if_neg (by simp [hopened])
  refine ⟨{ respond .ok none { resetTcb y with opened := true, active := false, conn := .listen } with busy := false },
    ?_, ⟨⟨rfl, rfl, htime⟩, rfl, rfl, rfl, rfl, rfl⟩⟩
  change runCommand _ _ = _
  rw [runCommand, hidle, event, hopen]
  rfl

/-- The SYN is answered (R144). -/
theorem exec_syn_of_listen {s : State} (h : Opening .listen s) (now : Time) :
    ∃ t, exec (.syn now 0x80) s = .next t ∧ Opening .synReceived t ∧ t.outs = s.outs ++ [.tx [0x01, 0xC4, 0xFF, 0x3C]] := by
  have hstep := packetStep_syn (s := received 0x80 0xFF now s) h.conn h.nothingOutstanding (stamp s now)
  have hreceive := receive_of_packetStep h.ready (k := 0x80) rfl rfl rfl hstep
  exact ⟨_, congrArg Host.Outcome.next hreceive,
    ⟨h.ready, rfl, rfl, rfl, h.nothingQueued, h.nothingOutstanding⟩, rfl⟩

/-- ESTABLISHED with the sequence numbers that both sides have after the handshake, and an empty slot (R283). -/
structure Synchronised (s : State) : Prop where
  established : established s = true
  snSent : s.snSent = false
  snReceived : s.snReceived = false
  slot : s.rtxValid = false

/-- The SYN+ACK is acknowledged (R145). -/
theorem exec_synack_of_synSent {s : State} (h : Opening .synSent s) (now : Time) :
    ∃ t, exec (.synack now true 0x3C) s = .next t ∧ Synchronised t ∧
      txStream t.outs = txStream s.outs ++ [[0x01, 0x4C, 0x00, 0xB3]] := by
  have hstep := packetStep_synack (s := received 0xC4 0xFF now s) h.conn h.snSent h.nothingQueued (stamp s now)
  have hreceive := receive_of_packetStep h.ready (k := 0x3C) rfl rfl rfl hstep
  refine ⟨_, congrArg Host.Outcome.next hreceive, ⟨?_, ?_, rfl, ?_⟩, ?_⟩
  · simp [established, emitted, received, afterHeader, h.ready.1]
  · simp [emitted, received, afterHeader, h.snSent]
  · simp [emitted]
  · simp [emitted, received, afterHeader, ackAccepted_outs, txStream_append, txStream_completion, txStream]

/-- The last packet of the handshake is accepted in silence (R152, R156). -/
theorem exec_ack_of_synReceived {s : State} (h : Opening .synReceived s) (now : Time) :
    ∃ t, exec (.ack now true true 0xB3) s = .next t ∧ Synchronised t ∧ t.outs = s.outs := by
  have hstep := packetStep_ack (s := received 0x4C 0x00 now s) h.conn h.snSent h.snReceived (stamp s now)
  have hreceive := receive_of_packetStep h.ready (k := 0xB3) rfl rfl rfl hstep
  refine ⟨_, congrArg Host.Outcome.next hreceive, ⟨?_, ?_, ?_, ?_⟩, ?_⟩
  · simp [established, received, afterHeader, h.ready.1]
  · simp [received, afterHeader, h.snSent]
  · simp [received, afterHeader, h.snReceived]
  · simp
  · simp [received, afterHeader, ackAccepted_outs, completion, h.nothingOutstanding]

/-- Settles O55: each of the five events in turn. -/
theorem handshakeEstablishesBothSides : Obligations.HandshakeEstablishesBothSides := by
  intro x y t0 t1 t2 t3 t4 hx hxidle hxtime hy hyidle hytime
  obtain ⟨x1, hopena, hx1, hx1outs⟩ := exec_opena_of_closed hx hxidle hxtime t0
  obtain ⟨y1, hopenp, hy1⟩ := exec_openp_of_closed hy hyidle hytime t1
  obtain ⟨y2, hsyn, hy2, hy2outs⟩ := exec_syn_of_listen hy1 t2
  obtain ⟨x2, hsynack, hx2, hx2outs⟩ := exec_synack_of_synSent hx1 t3
  obtain ⟨y3, hack, hy3, hy3outs⟩ := exec_ack_of_synReceived hy2 t4
  refine ⟨x1, x2, y1, y2, y3, hopena, ?_, hopenp, hsyn, ?_, hsynack, hx2outs, hack, hx2.established, hy3.established,
    hx2.snSent.trans hy3.snReceived.symm, hy3.snSent.trans hx2.snReceived.symm, hx2.slot, hy3.slot, hy3outs⟩
  · rw [hx1outs, txStream_append]
    rfl
  · rw [hy2outs, txStream_append]
    rfl

/-! ### One fragment from end to end (R153, R162, R200) -/

/-- `s` after the fragment `e`, the head of `txq`, has been dispatched (R200). -/
def afterDispatch (e : TxEntry) (rest : List TxEntry) (now : Time) (s : State) : State :=
  { sent (buildData s.cfg.crc (!s.snSent) (!s.snReceived) e.eor e.bytes) now s with
    txq := rest, curValid := true, curTag := e.tag, snSent := !s.snSent }

/-- Dispatch of the head fragment, in full. -/
theorem dispatch_eq_afterDispatch {s : State} {e : TxEntry} {rest : List TxEntry} (hqueue : s.txq = e :: rest)
    (hsize : FragmentSize e.bytes) (now : Time) : dispatch now s = afterDispatch e rest now s := by
  rw [dispatch_cons hqueue, sendSeg_own (retransmittable_buildData hsize _ _ _ _)]
  rfl

/-- DSP with the guard true (R201). -/
theorem exec_dsp_of_ready {s : State} {e : TxEntry} {rest : List TxEntry} (hready : dispatchReady s = true)
    (hidle : s.busy = false) (hqueue : s.txq = e :: rest) (hsize : FragmentSize e.bytes) (now : Time) :
    exec (.dsp now) s = .next (afterDispatch e rest (stamp s now) s) := by
  have hdispatch : dispatchCheck now { s with busy := true } =
      afterDispatch e rest (stamp s now) { s with busy := true } :=
    (if_pos hready).trans (dispatch_eq_afterDispatch (s := { s with busy := true }) hqueue hsize _)
  exact congrArg Host.Outcome.next ((event_eq_of_update hdispatch).trans
    (withIdle_eq (s := afterDispatch e rest (stamp s now) s) hidle))

/-- What the receiver reads from a built data packet (R115, R119). -/
structure CarriesFragment (p : Pkt) (sn an eor : Bool) (bytes : List Byte) : Prop extends PlainAck p where
  sn : pktSn p = sn
  an : pktAn p = an
  eor : pktEor p = eor
  hasData : pktHasData p = true
  bytes : p.bytes = bytes

theorem ctlRst_dataCtl (flags : Byte) (sn an eor : Bool) : ctlRst (dataCtl flags sn an eor) = ctlRst flags := by
  rw [ctlRst, getLsbD_dataCtl, getLsbD_mkCtl, ctlRst]
  simp

theorem ctlSyn_dataCtl (flags : Byte) (sn an eor : Bool) : ctlSyn (dataCtl flags sn an eor) = ctlSyn flags := by
  rw [ctlSyn, getLsbD_dataCtl, getLsbD_mkCtl, ctlSyn]
  simp

theorem ctlFin_dataCtl (flags : Byte) (sn an eor : Bool) : ctlFin (dataCtl flags sn an eor) = ctlFin flags := by
  rw [ctlFin, getLsbD_dataCtl, getLsbD_mkCtl, ctlFin]
  simp

theorem dataCtl_noEor (flags : Byte) (sn an : Bool) : dataCtl flags sn an false = mkCtl flags sn an := BitVec.or_zero

/-- The SN, AN and EOR bits leave the other flags as they are. -/
theorem plainAck_dataCtl {flags : Byte} (h : PlainAck ⟨flags, 0, []⟩) (sn an eor : Bool) (l : Byte) (bytes : List Byte) :
    PlainAck ⟨dataCtl flags sn an eor, l, bytes⟩ where
  rst := (ctlRst_dataCtl _ _ _ _).trans h.rst
  syn := (ctlSyn_dataCtl _ _ _ _).trans h.syn
  fin := (ctlFin_dataCtl _ _ _ _).trans h.fin
  ack := (ctlAck_dataCtl _ _ _ _).trans h.ack

theorem plainAck_bare (sn an : Bool) : PlainAck ⟨mkCtl 0x40 sn an, 0, []⟩ := by
  rw [← dataCtl_noEor]
  exact plainAck_dataCtl ⟨rfl, rfl, rfl, rfl⟩ sn an false 0 []

theorem carriesFragment_so (sn an eor : Bool) (b : Byte) :
    CarriesFragment ⟨dataCtl 0x41 sn an eor, b, [b]⟩ sn an eor [b] where
  toPlainAck := plainAck_dataCtl ⟨rfl, rfl, rfl, rfl⟩ sn an eor b [b]
  sn := ctlSn_dataCtl rfl sn an eor
  an := ctlAn_dataCtl rfl sn an eor
  eor := ctlEor_dataCtl rfl sn an eor
  hasData := hasData_of_so (ctlSo_dataCtl _ _ _ _) b
  bytes := rfl

theorem carriesFragment_crc (sn an eor : Bool) {bytes : List Byte} (hsize : FragmentSize bytes) :
    CarriesFragment ⟨dataCtl 0x40 sn an eor, lenByte bytes, bytes⟩ sn an eor bytes where
  toPlainAck := plainAck_dataCtl ⟨rfl, rfl, rfl, rfl⟩ sn an eor _ bytes
  sn := ctlSn_dataCtl rfl sn an eor
  an := ctlAn_dataCtl rfl sn an eor
  eor := ctlEor_dataCtl rfl sn an eor
  hasData := hasData_dataCtl sn an eor (lenByte_ne_zero hsize)
  bytes := rfl

/-- `s` with other contents of the framer's registers, the phase excepted (R34). -/
def withFramer (c l : Byte) (pay : Memory) (cnt : BitVec 8) (crcHi : Byte) (ts : Time) (s : State) : State :=
  { s with rxCtl := c, rxLen := l, rxPay := pay, rxCnt := cnt, rxCrcHi := crcHi, rxTs := ts }

/-- A built data packet that arrives whole runs the packet step on the fragment it was built from (R115, R128). -/
theorem receive_buildData {s : State} (h : HuntReady s) (hwf : s.rxPay.wf rxPaySize = true) {bytes : List Byte}
    (hsize : FragmentSize bytes) (sn an eor : Bool) (now : Time) :
    ∃ p c l pay cnt crcHi ts, CarriesFragment p sn an eor bytes ∧
      receive (buildData s.cfg.crc sn an eor bytes) now s =
        event (packetStep p (stamp s now)) (withFramer c l pay cnt crcHi ts s) := by
  obtain ⟨b, rfl⟩ | hfits := hsize.cases
  · rw [buildData_single, ← dataCtl_so]
    exact ⟨_, _, _, _, _, _, _, carriesFragment_so sn an eor b,
      Host.Outcome.next.inj (receive_so h (headerOk_headerChecksum _ _) (ctlSo_dataCtl _ _ _ _) now)⟩
  · have hstep := (receive_withCrc h hwf (headerOk_headerChecksum _ _) (follow_data sn an eor hfits)
      (crc16 s.cfg.crc bytes) now rfl).trans (if_pos rfl)
    rw [buildData_of_two_le hfits.1]
    exact ⟨_, _, _, _, _, _, _, carriesFragment_crc sn an eor hsize, Host.Outcome.next.inj hstep⟩

/-- A fragment that arrives in sequence, with room for it and nothing queued, is stored and acknowledged alone (R162). -/
theorem packetStep_of_fragment {s : State} {p : Pkt} {sn an eor : Bool} {bytes : List Byte}
    (hp : CarriesFragment p sn an eor bytes) (hconn : s.conn = .established) (hsn : sn = !s.snReceived)
    (hroom : queueFull s.cfg.rxqDepth s.rxq.length = false) (hqueue : s.txq = []) (now : Time) :
    packetStep p now s =
      emitted (makeHeader (mkCtl 0x40 an (!sn)) 0)
        { afterAck p now s with rxq := s.rxq ++ [⟨bytes, eor⟩], snReceived := sn } := by
  have hexpected : snExpected p s = true := by simp [snExpected, hp.sn, hsn]
  rw [hp.packetStep_of_data hconn hexpected hp.hasData hroom,
    deliver_of_nothing_queued ((afterAck_txq p now s).trans hqueue), ackPacket, afterAck_rxq, hp.ack, hp.sn, hp.an, hp.eor,
    hp.bytes, Bool.true_and]

/-- The receiving engine's part. -/
theorem receive_fragment {s : State} (h : HuntReady s) (hwf : s.rxPay.wf rxPaySize = true) (hconn : s.conn = .established)
    (hroom : queueFull s.cfg.rxqDepth s.rxq.length = false) (hqueue : s.txq = []) {bytes : List Byte}
    (hsize : FragmentSize bytes) (an eor : Bool) (now : Time) :
    let t := receive (buildData s.cfg.crc (!s.snReceived) an eor bytes) now s
    t.rxq = s.rxq ++ [⟨bytes, eor⟩] ∧ t.snReceived = (!s.snReceived) ∧
      txStream t.outs = txStream s.outs ++ [makeHeader (mkCtl 0x40 an s.snReceived) 0] := by
  obtain ⟨p, c, l, pay, cnt, crcHi, ts, hp, hreceive⟩ := receive_buildData h hwf hsize (!s.snReceived) an eor now
  have hstep := packetStep_of_fragment (s := { withFramer c l pay cnt crcHi ts s with busy := true }) hp hconn rfl hroom
    hqueue (stamp s now)
  rw [hreceive.trans (event_eq_of_update hstep), Bool.not_not]
  exact ⟨rfl, rfl, by rw [emitted, txStream_append, txStream_afterAck]; rfl⟩

/-- A bare ACK in sequence that acknowledges the last SN sent (R153). -/
theorem packetStep_of_acknowledgment {s : State} (hconn : s.conn = .established) {sn an : Bool}
    (hsn : sn = !s.snReceived) (han : an = !s.snSent) (now : Time) :
    packetStep ⟨mkCtl 0x40 sn an, 0, []⟩ now s = ackAccepted now s := by
  have hexpected : snExpected ⟨mkCtl 0x40 sn an, 0, []⟩ s = true := beq_iff_eq.mpr ((ctlSn_mkCtl rfl sn an).trans hsn)
  have hacked : anExpected ⟨mkCtl 0x40 sn an, 0, []⟩ s = true := beq_iff_eq.mpr ((ctlAn_mkCtl rfl sn an).trans han)
  rw [(plainAck_bare sn an).packetStep_of_noData hconn hexpected (hasData_mkCtl_zero rfl sn an),
    afterAck_of_anExpected hacked]

/-- The dispatching engine's part. -/
theorem receive_acknowledgment {s : State} (h : HuntReady s) (hconn : s.conn = .established) {sn an : Bool}
    (hsn : sn = !s.snReceived) (han : an = !s.snSent) (now : Time) :
    receive (makeHeader (mkCtl 0x40 sn an) 0) now s =
      { ackAccepted (stamp s now) (received (mkCtl 0x40 sn an) 0 now s) with busy := false } :=
  receive_of_packetStep h (headerOk_headerChecksum _ _) (ctlSo_mkCtl _ sn an) (hasData_mkCtl_zero rfl sn an)
    (packetStep_of_acknowledgment (s := received (mkCtl 0x40 sn an) 0 now s) hconn hsn han _)

/-- Settles O56: the dispatch, the fragment's reception and the acknowledgment's in turn. -/
theorem fragmentIsDeliveredAndCompleted : Obligations.FragmentIsDeliveredAndCompleted := by
  intro x y now later last e rest hx hy hxready hyready hcrc hxconn hslot hqueue hyconn hyqueue hroom hsn
  have hsize : FragmentSize e.bytes := hx.txSizes e (by simp [hqueue])
  have hcur : x.curValid = false := (hx.establishedSlot hxconn).symm.trans hslot
  have hready : dispatchReady x = true := by simp [dispatchReady, hxready.1, hxconn, hcur, hslot, hqueue]
  have hdsp := exec_dsp_of_ready hready hx.idle hqueue hsize now
  obtain ⟨hstored, hrecorded, hanswered⟩ :=
    receive_fragment hyready hy.rxPayForm hyconn hroom hyqueue hsize (!x.snReceived) e.eor later
  have hacked := receive_acknowledgment (s := afterDispatch e rest (stamp x now) x) hxready hxconn
    (sn := !x.snReceived) (an := x.snSent) rfl (Bool.not_not _).symm last
  rw [hsn, ← hcrc] at hstored hrecorded hanswered
  refine ⟨_, _, _, hdsp, txStream_append _ _, hstored, hanswered, ?_⟩
  rw [hacked, hrecorded]
  refine ⟨?_, ackAccepted_txq _ _, ackAccepted_rtxValid _ _, Eq.symm (ackAccepted_snSent _ _)⟩
  have hsent : completions (afterDispatch e rest (stamp x now) x).outs = completions x.outs :=
    (completions_append x.outs [_]).trans (List.append_nil _)
  rw [← hsent]
  exact (congrArg completions (ackAccepted_outs _ _)).trans (completions_append _ _)

end Sys2Proof.Machine
end

section
/-! PROOFS of the family 42_retransmission_timers.md, the operations: the estimator, SendSeg and the retransmit slot, the
accepted acknowledgment, and the DSP and TMR events. Each is settled by equations that say what the operation does under
each of its conditions. -/

namespace Sys2Proof.Machine

open Sys2Proof.Spec

/-! ### The estimator (R194, R195) -/

/-- The timeout as a number: `min(2^32 - 1, max(200, floor(15 * srtt / 10)))` (R29). -/
theorem toNat_rtoOf (srtt : Millis) : (rtoOf srtt).toNat = min (2 ^ 32 - 1) (max 200 (15 * srtt.toNat / 10)) :=
  Nat.mod_eq_of_lt (Nat.lt_of_le_of_lt (Nat.min_le_left _ _) (by decide))

/-- The new `srtt` as a number, for samples of 32 bits and for longer ones that leave it room. -/
theorem toNat_srttNext {srtt : Millis} {rtt : Nat} (h : rtt < 2 ^ 32 ∨ (8 * srtt.toNat + 2 * rtt) / 10 < 2 ^ 32) :
    (srttNext srtt rtt).toNat = (8 * srtt.toNat + 2 * rtt) / 10 :=
  srttNext_of_lt (h.elim srttNext_fits id)

/-- Settles O13: the laws of the two formulas as numbers, and the worked values by evaluation. -/
theorem estimatorLaws : Obligations.EstimatorLaws := by
  refine ⟨fun srtt rtt h => ?_, fun srtt => ?_, fun srtt r h => ?_, by decide⟩
  · have hnext := toNat_srttNext h
    omega
  · have hrto := toNat_rtoOf srtt
    have hbound := srtt.isLt
    refine ⟨by omega, fun hlow => BitVec.eq_of_toNat_eq ?_, by omega, by omega⟩
    rw [hrto, show (200 : Millis).toNat = 200 from rfl]
    omega
  · have hnext := toNat_srttNext h
    exact ⟨by omega, by omega, fun _ _ => BitVec.eq_of_toNat_eq (by omega)⟩

/-! ### SendSeg and the accepted acknowledgment (R191, R193, R194, R205) -/

/-- Settles O28: a packet of the fragment's own dispatch displaces nothing, and neither does one that finds nothing
outstanding. -/
theorem sendSegEmitsAndLoadsTheSlot : Obligations.SendSegEmitsAndLoadsTheSlot := by
  refine fun p now own s => ⟨fun hp => sendSeg_plain hp now own s, fun hp hnone => ?_, fun hp hown hcur => ?_⟩
  · cases own with
    | true => exact sendSeg_own hp now s
    | false => exact sendSeg_of_none hp now (by simpa using hnone)
  · subst hown
    rw [sendSeg_eq_sent hp]
    simp [completion, hcur]

/-- The outstanding fragment, if there is one, is completed (R194, R205, R256). -/
theorem settle_eq (code : Code) (s : State) :
    settle code s = { s with curValid := false, outs := s.outs ++ completion s code } := by
  cases hcur : s.curValid with
  | true => simp [settle, completion, complete, hcur]
  | false =>
    have hsame : { s with curValid := false } = s := congrArg (fun b => { s with curValid := b }) hcur.symm
    simp [settle_of_none hcur, completion, hcur, hsame]

theorem ackAccepted_of_empty {s : State} (h : s.rtxValid = false) (now : Time) : ackAccepted now s = settle .ok s := by
  rw [ackAccepted, if_neg (by simp [h])]

theorem ackAccepted_of_held {s : State} (h : s.rtxValid = true) (now : Time) :
    ackAccepted now s = settle .ok (sampleRtt now s) := by
  rw [ackAccepted, if_pos h]

/-- The sample in integers (R10). -/
theorem since_eq_toNat (s : State) (stamp now : Time) :
    since s stamp now = (((now : Int) - (stamp : Int)) % 2 ^ s.cfg.timeW).toNat :=
  Int.toNat_natCast _ ▸ congrArg Int.toNat (elapsed_eq_emod s.cfg.timeW stamp now)

/-- A sample has `TIME_W` bits; with at most 32 of them the new `srtt` has room. -/
theorem srttNext_fits_of_timeW {s : State} (h : s.cfg.timeW ≤ 32) (srtt : Millis) (stamp now : Time) :
    (8 * srtt.toNat + 2 * since s stamp now) / 10 < 2 ^ 32 :=
  srttNext_fits (Nat.lt_of_lt_of_le (elapsed_lt _ _ _) (Nat.pow_le_pow_right (by decide) h))

/-- Settles O31: with the slot held the estimator runs on the sample, and either way the outstanding fragment is settled. -/
theorem ackAcceptedUpdatesTheEstimator : Obligations.AckAcceptedUpdatesTheEstimator := by
  intro now s
  dsimp only
  rw [← since_eq_toNat]
  refine ⟨fun hempty => ?_, fun hheld => ?_⟩
  · rw [ackAccepted_of_empty hempty, settle_eq]
  · rw [ackAccepted_of_held hheld, settle_srtt, settle_rto, settle_eq]
    exact ⟨rfl, srttNext_of_lt, fun hw => srttNext_fits_of_timeW hw _ _ _, toNat_rtoOf _⟩

/-! ### DSP (R200, R201) -/

/-- `DispatchReady` is the conjunction of its five conditions (R200). -/
theorem dispatchReady_iff (s : State) :
    dispatchReady s = true ↔
      s.opened = true ∧ s.conn = .established ∧ s.curValid = false ∧ s.rtxValid = false ∧ s.txq ≠ [] := by
  simp [dispatchReady, and_assoc]

/-- DSP with the guard false (R201). -/
theorem exec_dsp_of_not_ready {s : State} (h : dispatchReady s = false) (hidle : s.busy = false) (now : Time) :
    exec (.dsp now) s = .next s := by
  have hskip : dispatchCheck now { s with busy := true } = { s with busy := true } :=
    if_neg (fun hready => Bool.false_ne_true (h.symm.trans hready))
  exact congrArg Host.Outcome.next ((event_eq_of_update hskip).trans (withIdle_eq hidle))

/-- Settles O32, by the two answers of the guard. -/
theorem dspDispatchesTheHeadFragment : Obligations.DspDispatchesTheHeadFragment := by
  refine fun s now hidle => ⟨fun e rest hopened hconn hcur hslot hqueue hsize => ?_, fun hnot => ?_⟩
  · have hready : dispatchReady s = true :=
      (dispatchReady_iff s).mpr ⟨hopened, hconn, hcur, hslot, hqueue ▸ List.cons_ne_nil e rest⟩
    exact exec_dsp_of_ready hready hidle hqueue hsize now
  · refine exec_dsp_of_not_ready (Bool.eq_false_iff.mpr fun hready => ?_) hidle now
    obtain ⟨hopened, hconn, hcur, hslot, hqueue⟩ := (dispatchReady_iff s).mp hready
    simp [hopened, hconn, hcur, hslot, hqueue] at hnot

/-! ### TMR (R196 to R199) -/

/-- `rx_phase` after the inter-byte timeout test at `now` (R129, R199). -/
def phaseAfterTimeout (now : Time) (s : State) : RxPhase :=
  if s.rxPhase ≠ .hunt ∧ s.cfg.tByte.toNat ≤ elapsed s.cfg.timeW s.rxTs now then .hunt else s.rxPhase

/-- The timeout test touches the phase alone. -/
theorem byteTimeout_eq (now : Time) (s : State) : byteTimeout now s = { s with rxPhase := phaseAfterTimeout now s } := by
  unfold byteTimeout phaseAfterTimeout since
  split <;> rfl

theorem phaseAfterTimeout_stamp (now : Time) (s : State) : phaseAfterTimeout (stamp s now) s = phaseAfterTimeout now s := by
  simp [phaseAfterTimeout, stamp]

/-- `s` with a TMR at `now` under way, after the first of its three steps (R196). -/
def afterTimeout (now : Time) (s : State) : State := { s with busy := true, rxPhase := phaseAfterTimeout now s }

theorem byteTimeout_busy (now : Time) (s : State) :
    byteTimeout (stamp s now) { s with busy := true } = afterTimeout now s :=
  (byteTimeout_eq _ _).trans
    (congrArg (fun ph => { s with busy := true, rxPhase := ph }) (phaseAfterTimeout_stamp now s))

/-- A TMR while a connection record exists, by what its last two steps do. -/
theorem exec_tmr_of_checks {s t : State} {now : Time} (hopened : s.opened = true) (hidle : t.busy = false)
    (h : retransmitCheck (stamp s now) (timeWaitCheck (stamp s now) (afterTimeout now s)) = { t with busy := true }) :
    exec (.tmr now) s = .next t := by
  rw [← byteTimeout_busy] at h
  have hcheck : timerCheck now { s with busy := true } = { t with busy := true } := (if_pos hopened).trans h
  exact congrArg Host.Outcome.next ((event_eq_of_update hcheck).trans (withIdle_eq hidle))

theorem timeWaitCheck_of_due {s : State} {now : Time} (hconn : s.conn = .timeWait)
    (hdue : timeWaitLength s.srtt ≤ since s s.twTs now) : timeWaitCheck now s = fail .connectionReset s :=
  if_pos ⟨hconn, hdue⟩

theorem timeWaitCheck_of_not_due {s : State} {now : Time}
    (h : ¬(s.conn = .timeWait ∧ timeWaitLength s.srtt ≤ since s s.twTs now)) : timeWaitCheck now s = s :=
  if_neg h

theorem retransmitCheck_of_due {s : State} {now : Time} (hconn : s.conn ≠ .closed) (hslot : s.rtxValid = true)
    (hdue : s.rto.toNat ≤ since s s.rtxTs now) : retransmitCheck now s = retryLimit (resend now s) :=
  if_pos ⟨hconn, hslot, hdue⟩

theorem retransmitCheck_of_not_due {s : State} {now : Time}
    (h : s.conn = .closed ∨ s.rtxValid = false ∨ since s s.rtxTs now < s.rto.toNat) : retransmitCheck now s = s := by
  refine if_neg fun hdue => ?_
  obtain ⟨hconn, hslot, htime⟩ := hdue
  rcases h with hclosed | hempty | hearly
  · exact hconn hclosed
  · exact Bool.false_ne_true (hempty.symm.trans hslot)
  · omega

/-- Settles O33: TIME_WAIT has an empty slot, so its end completes nothing, and CLOSED retransmits nothing. -/
theorem timerEndsTimeWait : Obligations.TimerEndsTimeWait := by
  intro s now hinv hopened hnotDue t
  have ht : t = { s with rxPhase := phaseAfterTimeout now s } := byteTimeout_eq now s
  have hsince (stamped : Time) : since s stamped (stamp s now) = elapsed s.cfg.timeW stamped now :=
    since_sampled s stamped now
  rw [ht]
  split
  · next hend =>
    obtain ⟨hconn, htime⟩ := hend
    have hslot : s.rtxValid = false := hinv.timeWaitSlot hconn
    have hcur : s.curValid = false := hinv.no_outstanding (by simp [hconn])
    refine exec_tmr_of_checks hopened hinv.idle ?_
    rw [timeWaitCheck_of_due (s := afterTimeout now s) hconn (htime.trans_eq (hsince s.twTs).symm),
      fail_of_idle (s := afterTimeout now s) _ hslot hcur]
    exact retransmitCheck_of_not_due (.inl rfl)
  · next hend =>
    refine exec_tmr_of_checks hopened hinv.idle ?_
    rw [timeWaitCheck_of_not_due (s := afterTimeout now s) fun hdue => hend ⟨hdue.1, hdue.2.trans_eq (hsince s.twTs)⟩]
    exact retransmitCheck_of_not_due (s := afterTimeout now s)
      (.inr (hnotDue.imp_right fun htime => (hsince s.rtxTs).trans_lt htime))

/-- Settles O34: a held segment excludes TIME_WAIT and CLOSED, so the retransmission is the only one of the last two steps
that is due. -/
theorem timerRetransmitsVerbatim : Obligations.TimerRetransmitsVerbatim := by
  intro s now hinv hslot hdue t
  have ht : t = { s with rxPhase := phaseAfterTimeout now s } := byteTimeout_eq now s
  have hnotClosed : s.conn ≠ .closed := fun hconn => Bool.false_ne_true ((hinv.closedSlot hconn).1.symm.trans hslot)
  have hnotWait : s.conn ≠ .timeWait := fun hconn => Bool.false_ne_true ((hinv.timeWaitSlot hconn).symm.trans hslot)
  have hopened : s.opened = true := hinv.opened_of_conn hnotClosed
  have hchecks : retransmitCheck (stamp s now) (timeWaitCheck (stamp s now) (afterTimeout now s)) =
      retryLimit (resend (stamp s now) (afterTimeout now s)) := by
    rw [timeWaitCheck_of_not_due (s := afterTimeout now s) fun hwait => hnotWait hwait.1]
    exact retransmitCheck_of_due (s := afterTimeout now s) hnotClosed hslot
      (hdue.trans_eq (since_sampled s s.rtxTs now).symm)
  rw [ht]
  split
  · next hlimit =>
    exact exec_tmr_of_checks hopened hinv.idle (hchecks.trans ((if_pos hlimit).trans (fail_eq_closed _ _)))
  · next hlimit => exact exec_tmr_of_checks hopened hinv.idle (hchecks.trans (if_neg hlimit))

end Sys2Proof.Machine
end

section
/-! PROOFS of the family 42_retransmission_timers.md, over every instruction: the order of completions, and CLOSED as a state
that RELEASE alone leaves. Each is a property that the shared operations keep, carried through the packet step, the framer,
the timers and the commands. -/

namespace Sys2Proof.Machine

open Sys2Proof.Spec

/-! ### The order of completions (R202, R260) -/

/-- Without a connection record nothing is pending (R21). -/
theorem InvInEvent.pendingTags_of_closed {s : State} (hinv : InvInEvent s) (hopened : s.opened = false) :
    pendingTags s = [] := by
  have hreset : { s with busy := false } = resetValues { s with busy := false } { s with busy := false } :=
    hinv.closedIsReset hopened
  have hcur : s.curValid = false := congrArg State.curValid hreset
  have hqueue : s.txq = [] := congrArg State.txq hreset
  simp [pendingTags, hcur, hqueue]

theorem completedTags_giveUpQueue (q : List TxEntry) (s : State) :
    completedTags (giveUpQueue q s) = completedTags s ++ q.map (·.tag) := by
  induction q generalizing s with
  | nil => exact (List.append_nil _).symm
  | cons e rest ih =>
    rw [giveUpQueue, ih]
    simp [completedTags, completions_append, completions]

/-- The fragments accepted so far, the completed ones first and then the pending ones, have the tags `tags`. -/
def Ledger (tags : List Tag) (s : State) : Prop := completedTags s ++ pendingTags s = tags

namespace Ledger

variable {tags : List Tag} {s t : State}

/-- Neither outputs that complete nothing nor other registers make a difference. -/
theorem update (h : Ledger tags s) (houts : completions t.outs = completions s.outs := by rfl)
    (hvalid : t.curValid = s.curValid := by rfl) (htag : t.curTag = s.curTag := by rfl) (hqueue : t.txq = s.txq := by rfl) :
    Ledger tags t := by
  unfold Ledger completedTags pendingTags
  rw [houts, hvalid, htag, hqueue]
  exact h

theorem ite {c : Prop} [Decidable c] (hs : Ledger tags s) (ht : Ledger tags t) : Ledger tags (if c then s else t) := by
  split
  · exact hs
  · exact ht

/-! #### The shared operations -/

theorem emit (h : Ledger tags s) (p : List Byte) : Ledger tags (emit p s) :=
  h.update ((completions_append s.outs [.tx p]).trans (List.append_nil _))

theorem respond (h : Ledger tags s) (code : Code) (e : Option RxEntry) : Ledger tags (respond code e s) :=
  h.update ((completions_append s.outs [.respond code e]).trans (List.append_nil _))

/-- The outstanding tag is the first pending one; it moves to the end of the completed ones. -/
theorem settle (h : Ledger tags s) (code : Code) : Ledger tags (settle code s) := by
  cases hcur : s.curValid with
  | false => rwa [settle_of_none hcur]
  | true => simpa [Ledger, completedTags, pendingTags, hcur, completions_append, completions] using h

theorem sendSeg (h : Ledger tags s) (p : List Byte) (now : Time) (own : Bool) : Ledger tags (sendSeg p now own s) :=
  ite (update (ite (h.emit p) ((h.emit p).settle .connectionReset))) (h.emit p)

theorem ackAccepted (h : Ledger tags s) (now : Time) : Ledger tags (ackAccepted now s) :=
  settle (ite h.update h) .ok

theorem fail (h : Ledger tags s) (code : Code) : Ledger tags (fail code s) :=
  settle (s := { s with status := code, conn := .closed, rtxValid := false }) h.update code

/-- The head of the queue is the first pending tag, and becomes the outstanding one. -/
theorem dispatch (h : Ledger tags s) (hready : dispatchReady s = true) (now : Time) : Ledger tags (dispatch now s) := by
  obtain ⟨-, -, hcur, -, -⟩ := (dispatchReady_iff s).mp hready
  cases hqueue : s.txq with
  | nil => simpa [Machine.dispatch, hqueue] using h
  | cons e rest =>
    rw [dispatch_cons hqueue]
    exact sendSeg (by simpa [Ledger, completedTags, pendingTags, hcur, hqueue] using h) _ now true

/-! #### A packet step (R144 to R162) -/

theorem rstReply (h : Ledger tags s) (p : Pkt) (now : Time) : Ledger tags (rstReply p now s) := h.sendSeg _ now false

theorem ackReply (h : Ledger tags s) (p : Pkt) (now : Time) : Ledger tags (ackReply p now s) := h.sendSeg _ now false

theorem answerSyn (h : Ledger tags s) (p : Pkt) (now : Time) : Ledger tags (answerSyn p now s) :=
  (sendSeg (s := { s with snReceived := pktSn p }) h.update _ now false).update

theorem dispatchOrAck (h : Ledger tags s) (p : Pkt) (now : Time) :
    Ledger tags (if dispatchReady s then Machine.dispatch now s else Machine.ackReply p now s) := by
  split
  · next hready => exact h.dispatch hready now
  · exact h.ackReply p now

theorem completeOpen (h : Ledger tags s) (p : Pkt) (now : Time) : Ledger tags (completeOpen p now s) :=
  dispatchOrAck (ackAccepted (s := { s with snReceived := pktSn p }) h.update now).update p now

theorem afterAck (h : Ledger tags s) (p : Pkt) (now : Time) : Ledger tags (afterAck p now s) := ite (h.ackAccepted now) h

theorem procH2 (h : Ledger tags s) (p : Pkt) (now : Time) : Ledger tags (procH2 p now s).state := by
  unfold Machine.procH2
  split
  · exact h
  · exact (sendSeg (s := { s with snReceived := pktSn p }) h.update _ now false).update

theorem procH3 (h : Ledger tags s) (p : Pkt) (now : Time) : Ledger tags (procH3 p now s).state := by
  simp only [Machine.procH3, Verdict.ite_state, Verdict.stop_state]
  exact ite h (ite ((h.sendSeg _ now false).fail _) (ite (h.ackReply p now).update (h.ackReply p now).update))

theorem procI1 (h : Ledger tags s) (p : Pkt) (now : Time) : Ledger tags (procI1 p now s).state := by
  rw [procI1_state]
  exact ite (dispatchOrAck h.update p now) h

theorem connectedStep (h : Ledger tags s) {tail : State → State} (htail : ∀ {x}, Ledger tags x → Ledger tags (tail x))
    (p : Pkt) (now : Time) : Ledger tags (connectedStep tail p now s) :=
  ite h (ite (h.emit _) (ite (h.fail _) (ite ((h.rstReply p now).fail _) (ite h (htail (h.afterAck p now))))))

/-- The packet step in each of the nine states. -/
theorem packetStep (h : Ledger tags s) (p : Pkt) (now : Time) : Ledger tags (packetStep p now s) := by
  have hrst := h.rstReply p now
  cases hconn : s.conn with
  | listen =>
    rw [packetStep_of_listen p now hconn]
    exact ite h (ite hrst (ite (h.answerSyn p now) h))
  | synSent =>
    rw [packetStep_of_synSent p now hconn]
    exact ite (ite h hrst) (ite (h.fail _) (ite (h.completeOpen p now) (ite (h.answerSyn p now) h)))
  | synReceived =>
    rw [packetStep_of_synReceived p now hconn]
    exact ite (ite h (h.emit _)) (ite (ite (h.fail _) h.update) (ite (hrst.fail _)
      (ite h (ite (ite (hrst.fail _) hrst.update) (procI1 (h.ackAccepted now).update p now)))))
  | established =>
    rw [packetStep_of_established p now hconn]
    exact h.connectedStep (fun h => ite (h.procH2 p now) (h.procI1 p now)) p now
  | finWait =>
    rw [packetStep_of_finWait p now hconn]
    exact h.connectedStep (fun h => h.procH3 p now) p now
  | lastAck =>
    rw [packetStep_of_lastAck p now hconn]
    refine h.connectedStep (fun {x} h => ?_) p now
    simp only [procH4, Verdict.ite_state, Verdict.stop_state]
    exact ite (h.fail _) h
  | closing =>
    rw [packetStep_of_closing p now hconn]
    refine h.connectedStep (fun {x} h => ?_) p now
    simp only [procH5, Verdict.ite_state, Verdict.stop_state]
    exact ite h.update h
  | timeWait =>
    rw [packetStep_of_timeWait p now hconn]
    have hack := h.afterAck p now
    simp only [procH6, Verdict.ite_state, Verdict.stop_state]
    exact ite (h.fail _) (ite (hrst.fail _) (ite h (ite (hack.ackReply p now).update hack)))
  | closed =>
    rw [packetStep_of_closed p now hconn]
    exact ite h (ite (h.emit _) (h.emit _))

/-! #### Events that push no fragment -/

theorem event {f : State → State} (hf : Ledger tags { s with busy := true } → Ledger tags (f { s with busy := true }))
    (h : Ledger tags s) : Ledger tags (event f s) :=
  (hf h.update).update

theorem framerMove (h : Ledger tags s) (hm : FramerMove s t) : Ledger tags t := by
  obtain ⟨_, _, _, _, _, _, _⟩ := hm
  exact h.update

theorem rxByte (h : Ledger tags s) (byte : Byte) (now : Time) : Ledger tags (rxByte byte now s) :=
  ite (rxByteAt_induction h (fun hm h => h.framerMove hm) (fun h => h.update) fun _ _ h => h.packetStep _ _) h

theorem receive (h : Ledger tags s) (bytes : List Byte) (now : Time) : Ledger tags (receive bytes now s) :=
  receive_induction (fun byte h => h.event fun h => h.rxByte byte now) bytes h

theorem timerCheck (h : Ledger tags s) (now : Time) : Ledger tags (timerCheck now s) := by
  have htimeout := h.framerMove (framerMove_byteTimeout (sampled s now) s)
  have hwait : Ledger tags (timeWaitCheck (sampled s now) (byteTimeout (sampled s now) s)) :=
    ite (htimeout.fail .connectionReset) htimeout
  have hresent : Ledger tags (resend (sampled s now) (timeWaitCheck (sampled s now) (byteTimeout (sampled s now) s))) :=
    (hwait.emit _).update
  exact ite (ite (ite (hresent.fail .timeout) hresent) hwait) h

theorem dispatchCheck (h : Ledger tags s) (now : Time) : Ledger tags (dispatchCheck now s) := by
  unfold Machine.dispatchCheck
  split
  · next hready => exact h.dispatch hready _
  · exact h

theorem cmdPop (h : Ledger tags s) : Ledger tags (cmdPop s) := by
  unfold Machine.cmdPop
  split
  · exact h.respond _ _
  · exact respond h.update _ _

theorem cmdClose (h : Ledger tags s) (now : Time) : Ledger tags (cmdClose now s) :=
  have hflip : Ledger tags { s with snSent := !s.snSent } := h.update
  respond (ite (hflip.sendSeg _ _ false).update h) _ _

theorem cmdWriteConfig (h : Ledger tags s) (value : Byte) : Ledger tags (cmdWriteConfig value s) :=
  respond (s := { s with maxRetries := value }) h.update _ _

/-- A reset forgets no pending tag when there is none. -/
theorem resetTcb (h : Ledger tags s) (hnone : pendingTags s = []) : Ledger tags (resetTcb s) :=
  (congrArg (completedTags s ++ ·) hnone.symm).trans h

theorem cmdOpenActive (h : Ledger tags s) (hinv : InvInEvent s) (now : Time) : Ledger tags (cmdOpenActive now s) := by
  unfold Machine.cmdOpenActive
  split
  · exact h.respond _ _
  · next hopened =>
    have hfresh : Ledger tags { Machine.resetTcb s with opened := true, active := true, busy := s.busy } :=
      (h.resetTcb (hinv.pendingTags_of_closed (by simpa using hopened))).update
    exact respond (hfresh.sendSeg _ _ false).update _ _

theorem cmdOpenPassive (h : Ledger tags s) (hinv : InvInEvent s) : Ledger tags (cmdOpenPassive s) := by
  unfold Machine.cmdOpenPassive
  split
  · exact h.respond _ _
  · next hopened => exact respond (h.resetTcb (hinv.pendingTags_of_closed (by simpa using hopened))).update _ _

/-- RELEASE completes everything that is pending, in order (R221). -/
theorem cmdRelease (h : Ledger tags s) : Ledger tags (cmdRelease s) := by
  have hsettled : completedTags (Machine.settle .connectionReset s) ++ s.txq.map (·.tag) = tags := by
    simpa [Ledger, pendingTags] using h.settle .connectionReset
  have hgiven : Ledger tags
      { Machine.resetTcb (giveUpQueue s.txq (Machine.settle .connectionReset s)) with busy := s.busy } :=
    (List.append_nil _).trans ((completedTags_giveUpQueue _ _).trans hsettled)
  exact respond (ite hgiven h) _ _

/-- TXPUSH puts the tag of an accepted fragment behind all others, and no other tag (R218). -/
theorem cmdPush (h : Ledger tags s) (now : Time) (bytes : List Byte) (eor : Bool) (tag : Tag) :
    Ledger (tags ++ pushedTag (.txpush now eor tag bytes) s) (cmdPush bytes eor tag s) := by
  have hrefused (code : Code) (hnone : pushedTag (.txpush now eor tag bytes) s = []) :
      Ledger (tags ++ pushedTag (.txpush now eor tag bytes) s) (Machine.respond code none s) := by
    rw [hnone, List.append_nil]
    exact h.respond code none
  unfold Machine.cmdPush
  split
  · next hstate => exact hrefused _ (by simp [pushedTag, by simpa using hstate])
  split
  · next hsize =>
    refine hrefused _ (if_neg fun haccepted => ?_)
    simp only [Bool.and_eq_true, decide_eq_true_eq] at haccepted
    obtain ⟨⟨⟨-, hpos⟩, hle⟩, -⟩ := haccepted
    exact hsize.elim (by omega) (Nat.not_lt.mpr hle)
  split
  · next hfull => exact hrefused _ (by simp [pushedTag, hfull])
  next hstate hsize hroom =>
  have hpushed : pushedTag (.txpush now eor tag bytes) s = [tagBits s tag] := by
    have hmdl : mdl = 255 := rfl
    have hfits : 1 ≤ bytes.length ∧ bytes.length ≤ 255 := by omega
    have hestablished : established s = true := by simpa using hstate
    have hspace : txFull s = false := by simpa using hroom
    simp [pushedTag, tagBits, hfits, hestablished, hspace]
  rw [hpushed, ← h]
  exact respond (s := { s with txq := s.txq ++ [⟨bytes, eor, tagBits s tag⟩] })
    (by simp [Ledger, completedTags, pendingTags]) _ _

end Ledger

theorem pushedTag_of_fromChannel {i : Instr} (hi : fromChannel i = true) (s : State) : pushedTag i s = [] := by
  cases i with
  | txpush now eor tag bytes => cases hi
  | _ => rfl

/-- Every row but TXPUSH keeps the tags as they are; TXPUSH adds its own. -/
theorem ledger_of_rowEffect {i : Instr} {s t : State} (hinv : Inv s) (ht : RowEffect s i t) :
    Ledger (completedTags s ++ pendingTags s ++ pushedTag i s) t := by
  have h : Ledger (completedTags s ++ pendingTags s ++ []) s := (List.append_nil _).symm
  cases ht with
  | received hi bytes now =>
    rw [pushedTag_of_fromChannel hi]
    exact h.receive bytes now
  | opena now => exact h.event fun h => h.cmdOpenActive (hinv.inEvent true) now
  | openp now => exact h.event fun h => h.cmdOpenPassive (hinv.inEvent true)
  | txpush now eor tag bytes =>
    have hbusy : Ledger (completedTags s ++ pendingTags s) { s with busy := true } := rfl
    exact (hbusy.cmdPush now bytes eor tag).update
  | rxpop now => exact h.event Ledger.cmdPop
  | close now => exact h.event fun h => h.cmdClose now
  | release now => exact h.event Ledger.cmdRelease
  | wrcfg now value => exact h.event fun h => h.cmdWriteConfig value
  | rxb now byte => exact h.event fun h => h.rxByte byte now
  | tmr now => exact h.event fun h => h.timerCheck now
  | dsp now => exact h.event fun h => h.dispatchCheck now

/-- Settles O46: a fragment moves from the queue to the outstanding one and from there to the completed ones, and each move
keeps the order of the tags. -/
theorem completionsAreExactlyOnceAndInOrder : Obligations.CompletionsAreExactlyOnceAndInOrder :=
  fun _ _ _ hinv hn => ledger_of_rowEffect hinv (rowEffect_of_exec hn)

/-! ### CLOSED is inert (R196, R262) -/

/-- `t` is in the connection state of `s`, with the same error, queue and completions; and it has transmitted nothing more,
unless bytes came from the channel. -/
structure Inert (channel : Bool) (s t : State) : Prop where
  opened : t.opened = s.opened
  conn : t.conn = s.conn
  status : t.status = s.status
  txq : t.txq = s.txq
  completions : completions t.outs = completions s.outs
  silent : channel = false → txStream t.outs = txStream s.outs

namespace Inert

variable {channel : Bool} {s t u : State}

@[refl] theorem refl (channel : Bool) (s : State) : Inert channel s s := ⟨rfl, rfl, rfl, rfl, rfl, fun _ => rfl⟩

@[trans] theorem trans (h : Inert channel s t) (h' : Inert channel t u) : Inert channel s u where
  opened := h'.opened.trans h.opened
  conn := h'.conn.trans h.conn
  status := h'.status.trans h.status
  txq := h'.txq.trans h.txq
  completions := h'.completions.trans h.completions
  silent hc := (h'.silent hc).trans (h.silent hc)

theorem emitted (p : List Byte) (s : State) : Inert true s (emitted p s) where
  opened := rfl
  conn := rfl
  status := rfl
  txq := rfl
  completions := (completions_append _ _).trans (List.append_nil _)
  silent := nofun

theorem respond (code : Code) (e : Option RxEntry) (s : State) : Inert channel s (respond code e s) where
  opened := rfl
  conn := rfl
  status := rfl
  txq := rfl
  completions := (completions_append _ _).trans (List.append_nil _)
  silent _ := (txStream_append _ _).trans (List.append_nil _)

theorem event {f : State → State}
    (hf : ∀ {x : State}, x.opened = true → x.conn = .closed → Inert channel x (f x)) (hopened : s.opened = true)
    (hclosed : s.conn = .closed) : Inert channel s (event f s) :=
  { hf (x := { s with busy := true }) hopened hclosed with }

theorem of_framerMove (hm : FramerMove s t) : Inert channel s t := by
  obtain ⟨_, _, _, _, _, _, _⟩ := hm
  exact { refl channel s with }

/-- Procedure G at most emits a reset (R155). -/
theorem packetStep (hclosed : s.conn = .closed) (p : Pkt) (now : Time) : Inert true s (packetStep p now s) := by
  rw [packetStep_of_closed p now hclosed]
  split
  · rfl
  · split
    · exact emitted _ s
    · exact emitted _ s

theorem rxByte (hclosed : s.conn = .closed) (byte : Byte) (now : Time) : Inert true s (rxByte byte now s) := by
  unfold Machine.rxByte
  split
  · exact rxByteAt_induction (refl true s) (fun hm h => h.trans (of_framerMove hm)) (fun h => { h with }) fun _ _ h =>
      h.trans (.packetStep (h.conn.trans hclosed) _ _)
  · rfl

theorem receive (hopened : s.opened = true) (hclosed : s.conn = .closed) (bytes : List Byte) (now : Time) :
    Inert true s (receive bytes now s) := by
  refine receive_induction (P := Inert true s) (fun byte h => h.trans ?_) bytes (.refl true s)
  exact event (fun _ hclosed => rxByte hclosed byte now) (h.opened.trans hopened) (h.conn.trans hclosed)

/-- In CLOSED neither TIME_WAIT nor a retransmission can be due, and the framer's timeout is left (R196). -/
theorem timerCheck (hclosed : s.conn = .closed) (now : Time) : Inert channel s (timerCheck now s) := by
  unfold Machine.timerCheck
  split
  · have htimeout : Inert channel s (byteTimeout (sampled s now) s) := of_framerMove (framerMove_byteTimeout _ s)
    have hconn : (byteTimeout (sampled s now) s).conn = .closed := htimeout.conn.trans hclosed
    rw [timerCheckAt, timeWaitCheck, if_neg (by simp [hconn]), retransmitCheck, if_neg (by simp [hconn])]
    exact htimeout
  · rfl

theorem dispatchCheck (hclosed : s.conn = .closed) (now : Time) : Inert channel s (dispatchCheck now s) := by
  rw [Machine.dispatchCheck, if_neg (by simp [dispatchReady, hclosed])]

/-! The commands refuse, answer at once, or write `max_retries` (R216 to R222). -/

theorem cmdOpenActive (hopened : s.opened = true) (now : Time) : Inert channel s (cmdOpenActive now s) := by
  rw [Machine.cmdOpenActive, if_pos hopened]
  exact respond _ _ s

theorem cmdOpenPassive (hopened : s.opened = true) : Inert channel s (cmdOpenPassive s) := by
  rw [Machine.cmdOpenPassive, if_pos hopened]
  exact respond _ _ s

theorem cmdPush (hclosed : s.conn = .closed) (bytes : List Byte) (eor : Bool) (tag : Tag) :
    Inert channel s (cmdPush bytes eor tag s) := by
  rw [Machine.cmdPush, if_pos (by simp [established, hclosed])]
  exact respond _ _ s

theorem cmdPop (s : State) : Inert channel s (cmdPop s) := by
  unfold Machine.cmdPop
  split
  · exact respond _ _ s
  · next e rest _ => exact { respond (channel := channel) .ok (some e) { s with rxq := rest } with }

theorem cmdClose (hclosed : s.conn = .closed) (now : Time) : Inert channel s (cmdClose now s) := by
  rw [Machine.cmdClose, if_neg (by simp [established, hclosed])]
  exact respond _ _ s

theorem cmdWriteConfig (value : Byte) (s : State) : Inert channel s (cmdWriteConfig value s) :=
  { respond (channel := channel) .ok none { s with maxRetries := value } with }

theorem of_rowEffect {i : Instr} (hopened : s.opened = true) (hclosed : s.conn = .closed) (hi : isRelease i = false)
    (ht : RowEffect s i t) : Inert (fromChannel i) s t := by
  cases ht with
  | received hchannel bytes now => exact hchannel ▸ receive hopened hclosed bytes now
  | opena now => exact event (fun ho _ => cmdOpenActive ho now) hopened hclosed
  | openp now => exact event (fun ho _ => cmdOpenPassive ho) hopened hclosed
  | txpush now eor tag bytes => exact event (fun _ hc => cmdPush hc bytes eor tag) hopened hclosed
  | rxpop now => exact event (fun _ _ => cmdPop _) hopened hclosed
  | close now => exact event (fun _ hc => cmdClose hc now) hopened hclosed
  | release now => cases hi
  | wrcfg now value => exact event (fun _ _ => cmdWriteConfig value _) hopened hclosed
  | rxb now byte => exact event (fun _ hc => rxByte hc byte now) hopened hclosed
  | tmr now => exact event (fun _ hc => timerCheck hc now) hopened hclosed
  | dsp now => exact event (fun _ hc => dispatchCheck hc now) hopened hclosed

end Inert

/-- Settles O47: the slot stays empty by the invariants, and the rest by what each row does in CLOSED. -/
theorem closedIsInertUntilRelease : Obligations.ClosedIsInertUntilRelease := by
  intro i s t hinv hopened hclosed hi hn
  have h := Inert.of_rowEffect hopened hclosed hi (rowEffect_of_exec hn)
  have hstill : t.conn = .closed := h.conn.trans hclosed
  obtain ⟨hslot, hcur⟩ := (hinv.of_exec hn).closedSlot hstill
  exact ⟨h.opened.trans hopened, hstill, h.status, hslot, hcur, h.txq, h.completions, h.silent⟩
end Sys2Proof.Machine
end

section
/-! PROOFS of the family 43_host_commands.md, the commands: one equation for each branch of each command; then the command
as an event between two states that are not busy, and the outputs of all seven against the table of answers. -/

namespace Sys2Proof.Machine

open Sys2Proof.Spec

/-! ### The branches of the commands (R216 to R222) -/

theorem established_iff (s : State) : established s = true ↔ s.opened = true ∧ s.conn = .established := by
  simp [established]

theorem cmdOpenActive_of_opened {s : State} (h : s.opened = true) (now : Time) :
    cmdOpenActive now s = respond .refused none s := if_pos h

/-- The SYN displaces nothing, for after the reset nothing is outstanding (R205, R216). -/
theorem cmdOpenActive_of_not_opened {s : State} (h : s.opened = false) (now : Time) :
    cmdOpenActive now s =
      { sent [0x01, 0x80, 0xFF, 0x80] (stamp s now) (resetTcb s) with
        opened := true, active := true, conn := .synSent, busy := s.busy
        outs := s.outs ++ [.tx [0x01, 0x80, 0xFF, 0x80], .respond .ok none] } := by
  rw [cmdOpenActive, if_neg (by simp [h]), openActive, sendSeg_of_none rfl _ rfl]
  simp only [respond, sent, List.append_assoc]
  rfl

theorem cmdOpenPassive_of_opened {s : State} (h : s.opened = true) : cmdOpenPassive s = respond .refused none s :=
  if_pos h

theorem cmdOpenPassive_of_not_opened {s : State} (h : s.opened = false) :
    cmdOpenPassive s =
      respond .ok none { resetTcb s with opened := true, active := false, conn := .listen, busy := s.busy } :=
  if_neg (by simp [h])

section
variable {s : State} {bytes : List Byte} {eor : Bool} {tag : Tag}

theorem cmdPush_of_not_established (h : ¬established s = true) :
    cmdPush bytes eor tag s = respond .networkDown none s := if_pos (by simpa using h)

theorem cmdPush_of_size (h : established s = true) (hsize : bytes.length = 0 ∨ mdl < bytes.length) :
    cmdPush bytes eor tag s = respond .refused none s := by
  rw [cmdPush, if_neg (by simp [h]), if_pos hsize]

theorem cmdPush_of_full (h : established s = true) (hsize : ¬(bytes.length = 0 ∨ mdl < bytes.length))
    (hfull : txFull s = true) : cmdPush bytes eor tag s = respond .wouldBlock none s := by
  rw [cmdPush, if_neg (by simp [h]), if_neg hsize, if_pos hfull]

theorem cmdPush_of_room (h : established s = true) (hsize : ¬(bytes.length = 0 ∨ mdl < bytes.length))
    (hroom : ¬txFull s = true) :
    cmdPush bytes eor tag s = respond .ok none { s with txq := s.txq ++ [⟨bytes, eor, tagBits s tag⟩] } := by
  rw [cmdPush, if_neg (by simp [h]), if_neg hsize, if_neg hroom]

end

theorem cmdPop_of_nil {s : State} (h : s.rxq = []) : cmdPop s = respond .wouldBlock none s := by
  simp [cmdPop, h]

theorem cmdPop_of_cons {s : State} {e : RxEntry} {rest : List RxEntry} (h : s.rxq = e :: rest) :
    cmdPop s = respond .ok (some e) { s with rxq := rest } := by
  simp [cmdPop, h]

/-- The FIN takes the slot, so that the outstanding fragment is given up (R205, R220). -/
theorem cmdClose_of_established {s : State} (h : established s = true) (now : Time) :
    cmdClose now s =
      { sent (makeHeader (mkCtl 0x60 (!s.snSent) (!s.snReceived)) 0) (stamp s now) s with
        snSent := !s.snSent, conn := .finWait, curValid := false
        outs := s.outs ++ [.tx (makeHeader (mkCtl 0x60 (!s.snSent) (!s.snReceived)) 0)] ++
          completion s .connectionReset ++ [.respond .ok none] } := by
  rw [cmdClose, if_pos h, startClose, sendSeg_eq_sent (retransmittable_finack _ _)]
  rfl

theorem cmdClose_of_not_established {s : State} (h : ¬established s = true) (now : Time) :
    cmdClose now s = respond .ok none s := by
  rw [cmdClose, if_neg h]

theorem giveUpQueue_eq (q : List TxEntry) (s : State) :
    giveUpQueue q s = { s with outs := s.outs ++ q.map (fun e => .complete e.tag .connectionReset) } := by
  induction q generalizing s with
  | nil => simp [giveUpQueue]
  | cons e rest ih => simp [giveUpQueue, ih, complete]

theorem cmdRelease_of_opened {s : State} (h : s.opened = true) :
    cmdRelease s =
      { resetTcb s with
        busy := s.busy
        outs := s.outs ++ completion s .connectionReset ++
          s.txq.map (fun e => .complete e.tag .connectionReset) ++ [.respond .ok none] } := by
  rw [cmdRelease, if_pos h, giveUpQueue_eq, settle_eq]
  rfl

theorem cmdRelease_of_not_opened {s : State} (h : s.opened = false) : cmdRelease s = respond .ok none s := by
  rw [cmdRelease, if_neg (by simp [h])]

/-! ### A command as one event (R35) -/

/-- `s` while an event runs. -/
def begun (s : State) : State := { s with busy := true }

/-- A command that leads from the begun event to `t`. -/
theorem runCommand_of_idle {f : State → State} {s t : State} (hidle : s.busy = false) (h : f (begun s) = t) :
    runCommand f s = .next { t with busy := false } := by
  rw [runCommand, if_neg (by simp [hidle]), event_eq_of_update h]

/-- A command that leads from one begun event to another, between states that are not busy. -/
theorem runCommand_of_begun {f : State → State} {s t : State} (hidle : s.busy = false) (ht : t.busy = false)
    (h : f (begun s) = begun t) : runCommand f s = .next t :=
  (runCommand_of_idle hidle h).trans (congrArg Host.Outcome.next (withIdle_eq ht))

/-- A command that only answers. -/
theorem runCommand_of_answer {f : State → State} {s : State} {code : Code} {payload : Option RxEntry}
    (hidle : s.busy = false) (h : f (begun s) = respond code payload (begun s)) :
    runCommand f s = .next { s with outs := s.outs ++ [.respond code payload] } :=
  runCommand_of_begun hidle hidle h

/-- Settles O35: an unopened block resets its registers and sends the SYN. -/
theorem openaSendsSyn : Obligations.OpenaSendsSyn :=
  fun s now hidle => ⟨fun hopened => runCommand_of_answer hidle (cmdOpenActive_of_opened (s := begun s) hopened now),
    fun hopened =>
      ⟨_, runCommand_of_idle hidle (cmdOpenActive_of_not_opened (s := begun s) hopened now), by rfl, rfl⟩⟩

/-- Settles O36: an unopened block resets its registers and listens. -/
theorem openpListens : Obligations.OpenpListens :=
  fun s _ hidle => ⟨fun hopened => runCommand_of_answer hidle (cmdOpenPassive_of_opened (s := begun s) hopened),
    fun hopened => ⟨_, runCommand_of_idle hidle (cmdOpenPassive_of_not_opened (s := begun s) hopened), rfl⟩⟩

/-- A queue is full when it holds its depth or more (R10). -/
theorem queueFull_iff (depth : Option Nat) (entries : Nat) :
    queueFull depth entries = true ↔ ∃ d, depth = some d ∧ d ≤ entries := by
  cases depth <;> simp [queueFull]

/-- Settles O37: the tests of the rule in their order. -/
theorem txpushQueuesOneFragment : Obligations.TxpushQueuesOneFragment := by
  refine ⟨fun s now eor tag bytes hidle => ⟨fun hdown => ?_, fun hopened hconn => ?_⟩, queueFull_iff⟩
  · exact runCommand_of_answer hidle (cmdPush_of_not_established ((established_iff (begun s)).not.mpr hdown))
  have hstate : established (begun s) = true := (established_iff _).mpr ⟨hopened, hconn⟩
  refine ⟨fun hsize => runCommand_of_answer hidle (cmdPush_of_size hstate hsize), fun hpos hle => ?_⟩
  have hsize : ¬(bytes.length = 0 ∨ 255 < bytes.length) := by omega
  exact ⟨fun hfull => runCommand_of_answer hidle (cmdPush_of_full hstate hsize ((txFull_iff _).mpr hfull)),
    fun hroom => runCommand_of_begun hidle hidle (cmdPush_of_room hstate hsize ((txFull_iff _).not.mpr hroom))⟩

/-- Settles O38, by what the queue holds. -/
theorem rxpopTakesTheHead : Obligations.RxpopTakesTheHead :=
  fun s _ hidle => ⟨fun hempty => runCommand_of_answer hidle (cmdPop_of_nil (s := begun s) hempty),
    fun _ _ hqueue => runCommand_of_begun hidle hidle (cmdPop_of_cons (s := begun s) hqueue)⟩

/-- Settles O39: in ESTABLISHED the close starts, elsewhere the answer is all. -/
theorem closeSendsFin : Obligations.CloseSendsFin := by
  intro s now hidle
  dsimp only
  split
  · next hstate =>
    exact runCommand_of_begun hidle hidle (cmdClose_of_established ((established_iff (begun s)).mpr hstate) now)
  · next hstate =>
    exact runCommand_of_answer hidle (cmdClose_of_not_established ((established_iff (begun s)).not.mpr hstate) now)

/-- Settles O40: with a connection record its fragments are given up and its registers reset. -/
theorem releaseResetsTheBlock : Obligations.ReleaseResetsTheBlock :=
  fun s _ hidle => ⟨fun hopened => runCommand_of_answer hidle (cmdRelease_of_not_opened (s := begun s) hopened),
    fun hopened => ⟨_, runCommand_of_idle hidle (cmdRelease_of_opened (s := begun s) hopened), rfl⟩⟩

/-- Settles O41: the one register and the answer. -/
theorem wrcfgWritesMaxRetries : Obligations.WrcfgWritesMaxRetries :=
  fun _ _ _ hidle => runCommand_of_begun hidle hidle rfl

/-! ### The answers (R215, R225) -/

theorem responses_append (a b : List Output) : responses (a ++ b) = responses a ++ responses b := by
  induction a with
  | nil => rfl
  | cons x rest ih => cases x <;> simp [responses, ih]

theorem responses_completion (s : State) (code : Code) : responses (completion s code) = [] := by
  unfold completion
  split <;> rfl

theorem txStream_map_complete (q : List TxEntry) (code : Code) :
    txStream (q.map fun e => .complete e.tag code) = [] := by
  induction q with
  | nil => rfl
  | cons e rest ih => exact ih

theorem responses_map_complete (q : List TxEntry) (code : Code) :
    responses (q.map fun e => .complete e.tag code) = [] := by
  induction q with
  | nil => rfl
  | cons e rest ih => exact ih

/-- From `s` to `t` the instruction `i` has answered once, with `code`, and emitted neither a packet nor a completion unless
it is a command that may (R215). -/
structure Answers (i : Instr) (code : Code) (s t : State) : Prop where
  once : ∃ payload, responses t.outs = responses s.outs ++ [(code, payload)]
  silent : silentCommand i = true → txStream t.outs = txStream s.outs
  uncompleting : uncompletingCommand i = true → completions t.outs = completions s.outs

/-- The answer comes last, after outputs `l` that are of the kinds the command emits. -/
theorem Answers.of_outs {i : Instr} {code : Code} {s t : State} {payload : Option RxEntry} (l : List Output)
    (houts : t.outs = s.outs ++ l ++ [.respond code payload]) (hl : responses l = [])
    (hsilent : silentCommand i = true → txStream l = []) (huncompleting : uncompletingCommand i = true → completions l = []) :
    Answers i code s t where
  once := ⟨payload, by rw [houts, responses_append, responses_append, hl, List.append_nil]; rfl⟩
  silent hi := by rw [houts, txStream_append, txStream_append, hsilent hi, List.append_nil]; exact List.append_nil _
  uncompleting hi := by
    rw [houts, completions_append, completions_append, huncompleting hi, List.append_nil]; exact List.append_nil _

/-- A command with no other output. -/
theorem Answers.of_respond {i : Instr} {code : Code} {s t : State} {payload : Option RxEntry}
    (houts : t.outs = s.outs ++ [.respond code payload]) : Answers i code s t :=
  .of_outs [] (by rw [houts, List.append_nil]) rfl (fun _ => rfl) (fun _ => rfl)

theorem answers_opena (now : Time) (s : State) :
    Answers (.opena now) (if s.opened then .refused else .ok) s (cmdOpenActive now s) := by
  cases hopened : s.opened with
  | true => exact .of_respond (congrArg State.outs (cmdOpenActive_of_opened hopened now))
  | false =>
    rw [cmdOpenActive_of_not_opened hopened]
    exact .of_outs [.tx _] (List.append_assoc s.outs [_] [_]).symm rfl nofun (fun _ => rfl)

theorem answers_openp (now : Time) (s : State) :
    Answers (.openp now) (if s.opened then .refused else .ok) s (cmdOpenPassive s) := by
  cases hopened : s.opened with
  | true => exact .of_respond (congrArg State.outs (cmdOpenPassive_of_opened hopened))
  | false => exact .of_respond (congrArg State.outs (cmdOpenPassive_of_not_opened hopened))

/-- The first test that applies decides (R259). -/
theorem answers_txpush (now : Time) (eor : Bool) (tag : Tag) (bytes : List Byte) (s : State) :
    Answers (.txpush now eor tag bytes)
      (if !established s then .networkDown else if bytes.length = 0 ∨ mdl < bytes.length then .refused
        else if txFull s then .wouldBlock else .ok)
      s (cmdPush bytes eor tag s) := by
  by_cases hstate : established s = true
  · rw [if_neg (by simp [hstate])]
    by_cases hsize : bytes.length = 0 ∨ mdl < bytes.length
    · rw [if_pos hsize, cmdPush_of_size hstate hsize]
      exact .of_respond rfl
    · rw [if_neg hsize]
      by_cases hfull : txFull s = true
      · rw [if_pos hfull, cmdPush_of_full hstate hsize hfull]
        exact .of_respond rfl
      · rw [if_neg hfull, cmdPush_of_room hstate hsize hfull]
        exact .of_respond rfl
  · rw [if_pos (by simpa using hstate), cmdPush_of_not_established hstate]
    exact .of_respond rfl

theorem answers_rxpop (now : Time) (s : State) :
    Answers (.rxpop now) (if s.rxq.isEmpty then .wouldBlock else .ok) s (cmdPop s) := by
  cases hqueue : s.rxq with
  | nil => exact .of_respond (congrArg State.outs (cmdPop_of_nil hqueue))
  | cons e rest => exact .of_respond (congrArg State.outs (cmdPop_of_cons hqueue))

/-- CLOSE may emit both a packet and a completion. -/
theorem answers_close (now : Time) (s : State) : Answers (.close now) .ok s (cmdClose now s) := by
  by_cases hstate : established s = true
  · rw [cmdClose_of_established hstate]
    exact .of_outs ([.tx _] ++ completion s .connectionReset)
      (congrArg (· ++ [Output.respond .ok none]) (List.append_assoc _ _ _)) (responses_completion s _) nofun nofun
  · exact .of_respond (congrArg State.outs (cmdClose_of_not_established hstate now))

theorem answers_release (now : Time) (s : State) : Answers (.release now) .ok s (cmdRelease s) := by
  cases hopened : s.opened with
  | true =>
    rw [cmdRelease_of_opened hopened]
    refine .of_outs (completion s .connectionReset ++ s.txq.map fun e => .complete e.tag .connectionReset)
      (congrArg (· ++ [Output.respond .ok none]) (List.append_assoc _ _ _)) ?_ ?_ nofun
    · rw [responses_append, responses_completion, responses_map_complete, List.append_nil]
    · intro
      rw [txStream_append, txStream_completion, txStream_map_complete, List.append_nil]
  | false => exact .of_respond (congrArg State.outs (cmdRelease_of_not_opened hopened))

/-- The event around a command changes neither outputs nor what the table looks at. -/
theorem Answers.event {i : Instr} {code : Code} {f : State → State} {s : State}
    (h : Answers i code (begun s) (f (begun s))) : Answers i code s (event f s) :=
  { h with }

/-- What comes from the channel is no command, and has no answer. -/
theorem tableAnswer_of_fromChannel {i : Instr} (hi : fromChannel i = true) (s : State) : tableAnswer i s = none := by
  cases i with
  | opena | openp | txpush | rxpop | close | release | wrcfg => cases hi
  | _ => rfl

theorem answers_of_rowEffect {i : Instr} {s t : State} {code : Code} (hi : tableAnswer i s = some code)
    (ht : RowEffect s i t) : Answers i code s t := by
  cases ht with
  | received hchannel bytes now => cases (tableAnswer_of_fromChannel hchannel s).symm.trans hi
  | rxb now byte | tmr now | dsp now => cases hi
  | opena now => exact Option.some.inj hi ▸ (answers_opena now (begun s)).event
  | openp now => exact Option.some.inj hi ▸ (answers_openp now (begun s)).event
  | txpush now eor tag bytes =>
    exact Option.some.inj hi ▸ (answers_txpush now eor tag bytes (begun s)).event
  | rxpop now => exact Option.some.inj hi ▸ (answers_rxpop now (begun s)).event
  | close now => exact Option.some.inj hi ▸ (answers_close now (begun s)).event
  | release now => exact Option.some.inj hi ▸ (answers_release now (begun s)).event
  | wrcfg now value => exact Option.some.inj hi ▸ .of_respond rfl

/-- Settles O43, command by command. -/
theorem commandsAnswerOnceByTheTable : Obligations.CommandsAnswerOnceByTheTable := by
  intro s t i code hi hn
  obtain ⟨honce, hsilent, huncompleting⟩ := answers_of_rowEffect hi (rowEffect_of_exec hn)
  exact ⟨honce, hsilent, huncompleting⟩

end Sys2Proof.Machine
end

section
/-! PROOFS of the family 43_host_commands.md, the driver layer: the fragments of a message, the callbacks of the
completions, and the message that `recv` returns. -/

namespace Sys2Proof.Machine

/-! ### The fragments of a message (R230) -/

/-- The list `l` cuts `bytes` into marked fragments: whole ones first, what is left in the last one. -/
inductive CutInto : List Byte → List (List Byte × Bool) → Prop
  | nil : CutInto [] []
  | last {bytes : List Byte} (hsize : FragmentSize bytes) : CutInto bytes [(bytes, true)]
  | more {chunk rest : List Byte} {l : List (List Byte × Bool)} (hwhole : chunk.length = mdl) (hmore : rest ≠ [])
      (hrest : CutInto rest l) : CutInto (chunk ++ rest) ((chunk, false) :: l)

/-- Fuel for every byte suffices. -/
theorem cutInto_chunksUpTo {fuel : Nat} {bytes : List Byte} (h : bytes.length ≤ fuel) :
    CutInto bytes (chunksUpTo fuel bytes) := by
  induction fuel generalizing bytes with
  | zero =>
    rw [List.eq_nil_of_length_eq_zero (Nat.le_zero.mp h)]
    exact .nil
  | succ n ih =>
    have hmdl : mdl = 255 := rfl
    unfold chunksUpTo
    split
    · next hnone =>
      rw [List.eq_nil_of_length_eq_zero hnone]
      exact .nil
    split
    · next hsome hfits => exact .last ⟨by omega, hfits⟩
    · next hlong =>
      have hdrop : (bytes.drop mdl).length ≤ n := by
        rw [List.length_drop]
        omega
      have hmore : bytes.drop mdl ≠ [] := by
        rw [Ne, List.drop_eq_nil_iff]
        exact hlong
      have hcut := CutInto.more (List.length_take_of_le (Nat.le_of_not_le hlong)) hmore (ih hdrop)
      rwa [List.take_append_drop] at hcut

theorem cutInto_chunks (bytes : List Byte) : CutInto bytes (chunks bytes) := cutInto_chunksUpTo (Nat.le_refl _)

namespace CutInto

variable {bytes : List Byte} {l : List (List Byte × Bool)}

theorem flatMap_eq (h : CutInto bytes l) : l.flatMap (·.1) = bytes := by
  induction h with
  | nil => rfl
  | last => exact List.append_nil _
  | more _ _ _ ih => rw [List.flatMap_cons, ih]

theorem ne_nil (h : CutInto bytes l) (hne : bytes ≠ []) : l ≠ [] := by
  rintro rfl
  exact hne h.flatMap_eq.symm

theorem fragmentSize (h : CutInto bytes l) : ∀ c ∈ l, FragmentSize c.1 := by
  induction h with
  | nil => nofun
  | last hsize => exact List.forall_mem_singleton.mpr hsize
  | more hwhole _ _ ih => exact List.forall_mem_cons.mpr ⟨⟨hwhole ▸ by decide, hwhole.le⟩, ih⟩

theorem dropLast_whole (h : CutInto bytes l) : ∀ c ∈ l.dropLast, c.1.length = 255 := by
  induction h with
  | nil | last => nofun
  | more hwhole hmore hrest ih =>
    rw [List.dropLast_cons_of_ne_nil (hrest.ne_nil hmore)]
    exact List.forall_mem_cons.mpr ⟨hwhole, ih⟩

theorem length_eq (h : CutInto bytes l) : l.length = (bytes.length + 254) / 255 := by
  have hmdl : mdl = 255 := rfl
  induction h with
  | nil => rfl
  | last hsize =>
    obtain ⟨hpos, hle⟩ := hsize
    rw [List.length_singleton]
    omega
  | more hwhole _ _ ih =>
    rw [List.length_cons, List.length_append, ih, hwhole]
    omega

/-- The last fragment is marked and no other (R230). -/
theorem marks (h : CutInto bytes l) (hne : bytes ≠ []) :
    l.map (·.2) = List.replicate (l.length - 1) false ++ [true] := by
  induction h with
  | nil => exact absurd rfl hne
  | last => rfl
  | more _ hmore hrest ih =>
    obtain ⟨n, hn⟩ := Nat.exists_eq_succ_of_ne_zero (mt List.eq_nil_of_length_eq_zero (hrest.ne_nil hmore))
    rw [List.map_cons, ih hmore, List.length_cons, hn]
    rfl

end CutInto

/-- Settles O57, by what it is to be cut into fragments. -/
theorem chunksCarryTheMessage : Obligations.ChunksCarryTheMessage := fun bytes =>
  have h := cutInto_chunks bytes
  ⟨h.flatMap_eq, h.fragmentSize, h.dropLast_whole, h.length_eq, h.marks⟩

/-! ### Completions and callbacks (R236) -/

/-- The oldest fragment under the tag is the one that a completion means (log 12). -/
theorem takeCompletion_of_waiting {d : Driver} {tag : Tag} {front back : List (Tag × Option Callback)}
    {cb : Option Callback} (h : d.callbacks = front ++ (tag, cb) :: back) (hfront : ∀ e ∈ front, e.1 ≠ tag)
    (code : Code) :
    takeCompletion d (tag, code) =
      { d with callbacks := front ++ back, invoked := d.invoked ++ cb.toList.map fun c => (c, code) } := by
  have hskip : ∀ e ∈ front, ¬(e.1 == tag) = true := fun e he => by simpa using hfront e he
  have hfind : d.callbacks.find? (·.1 == tag) = some (tag, cb) := by
    rw [h, List.find?_append, List.find?_eq_none.mpr hskip]
    simp
  have herase : d.callbacks.eraseP (·.1 == tag) = front ++ back := by
    rw [h, List.eraseP_append_right _ hskip]
    simp
  simp only [takeCompletion, hfind, herase]
  cases cb <;> simp [invoke]

theorem takeCompletion_of_not_waiting {d : Driver} {tag : Tag} (h : ∀ e ∈ d.callbacks, e.1 ≠ tag) (code : Code) :
    takeCompletion d (tag, code) = d := by
  have hfind : d.callbacks.find? (·.1 == tag) = none := List.find?_eq_none.mpr fun e he => by simpa using h e he
  simp only [takeCompletion, hfind]

/-- With every completion of the stream taken there is none left to take. -/
theorem catchUp_of_seen {d : Driver} (h : d.seen = (completions d.block.outs).length) : catchUp d = d := by
  rw [catchUp, h, List.drop_length, List.foldl_nil, ← h]

/-- Settles O58: the two answers of the search for the tag, the count of taken completions, and the empty message. -/
theorem callbacksFollowTheCompletions : Obligations.CallbacksFollowTheCompletions := by
  refine ⟨fun d tag code front back cb h hfront => takeCompletion_of_waiting h hfront code,
    fun d tag code h => takeCompletion_of_not_waiting h code, fun d => catchUp_of_seen (by simp),
    fun d c env hstate => ?_⟩
  rw [send, if_neg (by simp [hstate]), if_pos List.length_nil]
  rfl

/-! ### The first whole message (R231) -/

/-- `s` after an RXPOP that takes `e` and leaves `rest` (R219). -/
def popped (e : RxEntry) (rest : List RxEntry) (s : State) : State :=
  { s with rxq := rest, outs := s.outs ++ [.respond .ok (some e)] }

theorem event_cmdPop_of_cons {s : State} {e : RxEntry} {rest : List RxEntry} (hidle : s.busy = false)
    (h : s.rxq = e :: rest) :
    event cmdPop s = popped e rest s :=
  (event_eq_of_update (cmdPop_of_cons (s := begun s) h)).trans (withIdle_eq (s := popped e rest s) hidle)

theorem lastResponse_popped (e : RxEntry) (rest : List RxEntry) (s : State) :
    lastResponse (popped e rest s) = (.ok, some e) := by
  simp [lastResponse, popped]

/-- A fragment that ends the message is the last one popped; any other is followed by the rest of the message. -/
theorem popMessage_of_cons {s : State} {e : RxEntry} {rest : List RxEntry} (hidle : s.busy = false)
    (h : s.rxq = e :: rest) (fuel : Nat) :
    popMessage (fuel + 1) s =
      if e.eor then (e.bytes, popped e rest s)
      else (e.bytes ++ (popMessage fuel (popped e rest s)).1, (popMessage fuel (popped e rest s)).2) := by
  rw [popMessage, event_cmdPop_of_cons hidle h]
  simp only [lastResponse_popped]

theorem popMessage_of_message {first rest : List RxEntry} {e : RxEntry} (hfirst : ∀ f ∈ first, f.eor = false)
    (he : e.eor = true) {fuel : Nat} (hfuel : first.length < fuel) {s : State} (hidle : s.busy = false)
    (h : s.rxq = first ++ e :: rest) :
    ∃ outs, popMessage fuel s = (first.flatMap (·.bytes) ++ e.bytes, { s with rxq := rest, outs := outs }) := by
  induction first generalizing fuel s with
  | nil =>
    obtain ⟨n, rfl⟩ := Nat.exists_eq_add_one_of_ne_zero (Nat.ne_zero_of_lt hfuel)
    rw [popMessage_of_cons hidle h]
    exact ⟨_, if_pos he⟩
  | cons f more ih =>
    obtain ⟨n, rfl⟩ := Nat.exists_eq_add_one_of_ne_zero (Nat.ne_zero_of_lt hfuel)
    obtain ⟨hf, hmore⟩ := List.forall_mem_cons.mp hfirst
    have hhead : s.rxq = f :: (more ++ e :: rest) := h
    obtain ⟨outs, hpop⟩ := ih hmore (Nat.lt_of_succ_lt_succ hfuel) (s := popped f (more ++ e :: rest) s) hidle rfl
    refine ⟨outs, ?_⟩
    rw [popMessage_of_cons hidle hhead, if_neg (by simp [hf]), hpop, List.flatMap_cons, List.append_assoc]
    rfl

theorem rxReady_of_message {s : State} {first rest : List RxEntry} {e : RxEntry} (h : s.rxq = first ++ e :: rest)
    (he : e.eor = true) : rxReady s = true := by
  simp [rxReady, h, he]

theorem not_rxReady_of_no_message {s : State} (h : ∀ f ∈ s.rxq, f.eor = false) : rxReady s = false := by
  simpa [rxReady] using h

/-- Settles O59: the run of RXPOPs ends at the first marked fragment, and begins only if there is one. -/
theorem recvTakesTheFirstMessage : Obligations.RecvTakesTheFirstMessage := by
  refine ⟨fun s first e rest hidle hqueue hfirst he => ?_, fun s hnone => ?_⟩
  · have hfuel : first.length < s.rxq.length := by simp [hqueue]
    obtain ⟨outs, hpop⟩ := popMessage_of_message hfirst he hfuel hidle hqueue
    refine ⟨{ s with rxq := rest, outs := outs }, ?_, rfl, rfl⟩
    rw [recv, if_neg (by simp [rxReady_of_message hqueue he]), hpop]
  · rw [recv, if_pos (by simp [not_rxReady_of_no_message hnone])]

end Sys2Proof.Machine
end

section
/-! PROOFS of the family 60_exceptions.md: the failure entry. -/

namespace Sys2Proof.Machine

/-- Settles O30: Fail is the completion of the outstanding fragment after three register writes; both cases of
`cur_valid` are in `fail_eq_closed`. -/
theorem failStoresTheCodeAndCloses : Obligations.FailStoresTheCodeAndCloses := by
  intro code s
  exact fail_eq_closed code s

end Sys2Proof.Machine
end

section
/-! PROOFS of the family 70_reset_and_hazards.md: a host command presented during an event. -/

namespace Sys2Proof.Machine

/-- The guard of a command refuses `busy` = 1 whatever the command does (R288; log 7). -/
theorem runCommand_of_busy {s : State} (hbusy : s.busy = true) (f : State → State) :
    runCommand f s = .fault .commandWhileBusy :=
  if_pos hbusy

/-- Settles O42: the seven instructions with an answer in the table of R225 are those that run behind the guard of
`runCommand`. -/
theorem commandWhileBusyStops : Obligations.CommandWhileBusyStops := by
  intro s i hbusy hanswer
  cases i with
  | opena now => exact runCommand_of_busy hbusy (cmdOpenActive now)
  | openp now => exact runCommand_of_busy hbusy cmdOpenPassive
  | txpush now eor tag bytes => exact runCommand_of_busy hbusy (cmdPush bytes eor tag)
  | rxpop now => exact runCommand_of_busy hbusy cmdPop
  | close now => exact runCommand_of_busy hbusy (cmdClose now)
  | release now => exact runCommand_of_busy hbusy cmdRelease
  | wrcfg now value => exact runCommand_of_busy hbusy (cmdWriteConfig value)
  | syn | synack | ack | rst | rstack | finack | data | data1 | datap1 | rxb | tmr | dsp => cases hanswer

end Sys2Proof.Machine
end
